-- ==== Sys2Proof/Word.lean ====
section
/-! DEFINITION. The words the spec counts in: bytes, byte strings and RGB8 triples (00_scope.md R8, R9; 20_memory.md R63). -/

namespace Sys2Proof

/-- An 8-bit unsigned value (R8). -/
abbrev Byte := BitVec 8

/-- A byte string, first byte first (R9). -/
abbrev Bytes := List Byte

/-- An audio sample: 16 bits, two's complement (30_encoding.md R98). -/
abbrev Sample := BitVec 16

/-- One RGB8 triple, bytes in the order red, green, blue (20_memory.md R63). -/
structure Pixel where
  r : Byte
  g : Byte
  b : Byte
  deriving DecidableEq, Repr, Inhabited

end Sys2Proof
end

