-- ==== Sys2Proof/Config.lean ====
section
/-! DEFINITION. What is fixed for the machine's lifetime (00_scope.md R6, R7; 10_state.md R20, R24): the spec's
constants, the implementation parameters, and the free values (93_implementation_defined.md U1 to U3). -/

namespace Sys2Proof

/-- Grid width in pixels, fixed (R6). -/
def Config.W : Nat := 320

/-- Grid height in lines, fixed (R6). -/
def Config.H : Nat := 256

/-- The VIS mode identifier, fixed (R6). -/
def Config.visCode : Nat := 44

/-- The implementation parameters of R6. The fields are coded so that every value is legal by R7:
there is no illegal parameter for the model to refuse. -/
structure Params where
  /-- `true`: 7 VIS data cells; `false`: 8 (decision D2). -/
  visSeven : Bool
  /-- `PHASE_BITS` is 16 plus this, so 16 to 32. -/
  phaseExtra : Fin 17
  /-- `AMPLITUDE` is 1 plus this, so 1 to 32767. -/
  ampPred : Fin 32767
  /-- `SINE` before its range is taken: see `Params.sine`. -/
  sineRaw : Nat → Int
  deriving Inhabited

/-- `VIS_DATA_BITS` (R6, R7). -/
def Params.visDataBits (P : Params) : Nat := if P.visSeven then 7 else 8

/-- `PHASE_BITS` (R6, R7). -/
def Params.phaseBits (P : Params) : Nat := 16 + P.phaseExtra.val

/-- `AMPLITUDE` (R6, R7). -/
def Params.amplitude (P : Params) : Nat := 1 + P.ampPred.val

/-- `SINE` (41_sstv_tone_sequencer.md R162): any total function from phases into −AMPLITUDE..AMPLITUDE, and nothing
else is known of it. -/
def Params.sine (P : Params) (phase : Nat) : Int :=
  max (-(P.amplitude : Int)) (min (P.amplitude : Int) (P.sineRaw phase))

/-- The values R6's table fixes (`VIS_DATA_BITS` 8, `PHASE_BITS` 32, `AMPLITUDE` 32767), for a given `SINE`. -/
def Params.standard (sine : Nat → Int) : Params :=
  { visSeven := false, phaseExtra := 16, ampPred := 32766, sineRaw := sine }

/-- FREE VALUE (DESIGN CHOICE, log 1): the machine's parameters. R6: "A model takes each one as an argument". Nothing can
evaluate it, so a claim about the machine holds for every legal choice. -/
opaque Config.params : Params

/-- FREE VALUE (DESIGN CHOICE, log 18): the increment at a sample rate of 0, for a frequency `a / b`. R160 divides by the
rate and states no result there; no cycle has such a rate (60_exceptions.md R333), and no instruction computes a sample at one
(41_sstv_tone_sequencer.md R141, log 23). -/
opaque Config.incAtRateZero : Nat → Nat → Nat

/-- FREE VALUE (DESIGN CHOICE, log 19): what `PixelRead(x, y)` gives where the grid holds no such pixel. R62 defines
PixelRead only after the dimension check. -/
opaque Config.pixelOutside : Nat → Nat → Pixel

end Sys2Proof
end

