-- ==== Sys2Proof/Syntax.lean ====
section
/-! DEFINITION. The syntax: one constructor of `Instr` per row of spec/opcode_table.json, the operands they take, and the
items a step decodes (30_encoding.md R90 to R108). -/

namespace Sys2Proof

/-- `PixelGrid = { w, h, px }` of 20_memory.md R61. A grid handed to START may break the invariant. -/
structure PixelGrid where
  w : Nat
  h : Nat
  px : List Pixel
  deriving DecidableEq, Repr

/-- The value operand of CFG_SET and the value CFG_READ returns, at the widths of 10_state.md R21. -/
inductive CfgValue where
  | str (v : Bytes)
  | u8 (v : BitVec 8)
  | u16 (v : BitVec 16)
  | u32 (v : BitVec 32)
  deriving DecidableEq, Repr

/-- A segment of the SSTV schedule: the twelve kinds of 30_encoding.md R92 with their argument. "A descriptor is only a
name for a segment" (R91). -/
inductive Segment where
  | leader
  | brk
  | visStart
  | visBit (bit : Bool)
  | visParity (bit : Bool)
  | visStop
  | sync
  | porch
  | pixG (v : Byte)
  | pixB (v : Byte)
  | pixR (v : Byte)
  | separator
  deriving DecidableEq, Repr

/-- The instructions: one constructor per row of spec/opcode_table.json, in the table's order. -/
inductive Instr where
  -- SEGDESC (R91, R92)
  | leader
  | brk
  | visStart
  | visBit (bit : Bool)
  | visParity (bit : Bool)
  | visStop
  | sync
  | porch
  | pixG (v : Byte)
  | pixB (v : Byte)
  | pixR (v : Byte)
  | separator
  -- SAMPLE (R98)
  | sampleSerialize (smp : Sample)
  -- AX25ADDR (R99, R100): a 7-bit character, a 4-bit SSID
  | addrChar (ch : BitVec 7)
  | addrSsidMore (ssid : BitVec 4)
  | addrSsidLast (ssid : BitVec 4)
  -- AX25FRAME (R101): the operand of FCS_LO and FCS_HI is the frame's FCS, a register (DEDUCED, log 17)
  | ctrlUi
  | pidNol3
  | infoByte (d : Byte)
  | fcsLo
  | fcsHi
  -- KISSFRAME (R104 to R106)
  | kissFendOpen
  | kissCmdData
  | kissLit (d : Byte)
  | kissEscFend
  | kissEscFesc
  | kissFendClose
  -- HOSTTXN (R108)
  | reset
  | start (g : PixelGrid)
  | cfgSet (k : Byte) (v : CfgValue)
  | cfgRead (k : Byte)
  | statusRead
  | writeOk
  | writeErr
  | sinkWrite (b : Bytes)
  -- internal steps, no encoding (R161, R164, R211)
  | toneSample
  | seqStep
  | crcUpdate (d : Byte)
  deriving DecidableEq, Repr

/-- Where a unit's word stands: the field of its format that decides how the word is read (R91, R98 to R106). One byte
value is a word of several formats, so the place decides (DESIGN CHOICE, log 5). -/
inductive Slot where
  | segment
  | sample
  | addrChar
  | ssidDst
  | ssidSrc
  | control
  | pid
  | info
  | fcsLo
  | fcsHi
  | kissOpen
  | kissCommand
  | kissData
  | kissClose
  deriving DecidableEq, Repr

/-- The typed operands of a host transaction (R108 "fixes the codes and the operand types, not a wire layout of the
operands": 95_test_vectors.md section 3; DESIGN CHOICE, log 8). -/
inductive HostArg where
  | none
  | grid (g : PixelGrid)
  | reg (k : Byte)
  | setting (k : Byte) (v : CfgValue)
  deriving DecidableEq, Repr

/-- What one step takes from `inbox`. -/
inductive Item where
  /-- A transaction from the host: its code and operands (R108). -/
  | host (code : Byte) (arg : HostArg)
  /-- A transaction the block issues (R108, direction block to host). -/
  | block (code : Byte) (payload : Bytes)
  /-- A word handed to one unit driven alone (R93, R217), its bytes in the order of the table's pattern (DEDUCED, log 7). -/
  | unit (slot : Slot) (word : Bytes)
  deriving DecidableEq, Repr

end Sys2Proof
end

