-- ==== Sys2Proof/WellFormed.lean ====
section
/-! DEFINITION. Which terms of `Instr` are instructions of the spec: the operand restrictions that the operand's Lean type
does not already express (44_cycle_control.md R281, 10_state.md R22, 43_kiss_encoder.md R253). -/

namespace Sys2Proof

/-- The operand type of CFG_SET: the value of register `k` has the width of 10_state.md R21 ("the operand type excludes"
any other, R281); a register of 6 and above has no width, so any value may stand there. -/
def cfgShapeOk (k : Byte) (v : CfgValue) : Bool :=
  match k.toNat, v with
  | 0, .str b => b.length ≤ 255
  | 1, .u8 _ => true
  | 2, .str b => b.length ≤ 255
  | 3, .u8 _ => true
  | 4, .u16 _ => true
  | 5, .u32 _ => true
  | n, _ => 6 ≤ n

/-- R253: the operand of KISS_LIT is a raw byte other than 0xC0 and 0xDB. -/
def kissLiteral (d : Byte) : Bool := d != 0xC0#8 && d != 0xDB#8

/-- The check on an instruction's operands. -/
def Instr.wellFormed : Instr → Bool
  | .leader => true
  | .brk => true
  | .visStart => true
  | .visBit _ => true
  | .visParity _ => true
  | .visStop => true
  | .sync => true
  | .porch => true
  | .pixG _ => true
  | .pixB _ => true
  | .pixR _ => true
  | .separator => true
  | .sampleSerialize _ => true
  | .addrChar _ => true
  | .addrSsidMore _ => true
  | .addrSsidLast _ => true
  | .ctrlUi => true
  | .pidNol3 => true
  | .infoByte _ => true
  | .fcsLo => true
  | .fcsHi => true
  | .kissFendOpen => true
  | .kissCmdData => true
  | .kissLit d => kissLiteral d
  | .kissEscFend => true
  | .kissEscFesc => true
  | .kissFendClose => true
  | .reset => true
  | .start _ => true
  | .cfgSet k v => cfgShapeOk k v
  | .cfgRead _ => true
  | .statusRead => true
  | .writeOk => true
  | .writeErr => true
  | .sinkWrite _ => true
  | .toneSample => true
  | .seqStep => true
  | .crcUpdate _ => true

end Sys2Proof
end

