-- ==== Sys2Proof/Decode.lean ====
section
/-! DEFINITION. Decoding, total on any item and rejecting by name, and after it the encoder, both from the tables of
30_encoding.md (R91 to R93, R98 to R108) and spec/opcode_table.json. -/

namespace Sys2Proof

/-- Why an item is no instruction. -/
inductive Reject where
  /-- HOSTTXN code 0x07..0x7F or 0x81..0xFF from the host (R108, R109, 44_cycle_control.md R293). -/
  | reservedHostCode
  /-- HOSTTXN code 0x80 from the host: it is the block's to issue (R108; DEDUCED, log 22). -/
  | blockCodeFromHost
  /-- A transaction whose operand has not the code's type (44_cycle_control.md R281: no host can send it). -/
  | operandType
  /-- A reserved or malformed segment descriptor (R93). -/
  | malformedDescriptor
  /-- A word that the pattern of its field does not admit: "never produced" (R109). -/
  | malformedWord
  /-- A block-to-host code other than 0x80: the block issues no other (R108). -/
  | unknownBlockCode
  deriving DecidableEq, Repr

/-- The answer of the decoder. -/
inductive Decoded where
  | ok (i : Instr)
  | reject (r : Reject)
  deriving DecidableEq, Repr

/-- Bits 7:0 of a 16-bit value. -/
def lowByte (v : BitVec 16) : Byte := v.setWidth 8

/-- Bits 15:8 of a 16-bit value. -/
def highByte (v : BitVec 16) : Byte := (v >>> 8).setWidth 8

/-- The 16-bit word whose pattern is written with byte `hi` first (DEDUCED, log 7). -/
def word16 (hi lo : Byte) : BitVec 16 := hi ++ lo

/-- `kind`, bits 15:12 of a segment descriptor (R91). -/
def segKind (w : BitVec 16) : Nat := (w >>> 12).toNat

/-- The reserved bits 11:8 of a segment descriptor (R91). -/
def segReserved (w : BitVec 16) : BitVec 4 := (w >>> 8).setWidth 4

/-- The segment that a descriptor with zero reserved bits names, from its kind and argument (R92). -/
def segmentOfKind (kind : Nat) (arg : Byte) : Option Segment :=
  match kind with
  | 0 => if arg = 0#8 then some .leader else none
  | 1 => if arg = 0#8 then some .brk else none
  | 2 => if arg = 0#8 then some .visStart else none
  | 3 => if arg >>> 1 = 0#8 then some (.visBit (arg.getLsbD 0)) else none
  | 4 => if arg >>> 1 = 0#8 then some (.visParity (arg.getLsbD 0)) else none
  | 5 => if arg = 0#8 then some .visStop else none
  | 6 => if arg = 0#8 then some .sync else none
  | 7 => if arg = 0#8 then some .porch else none
  | 8 => some (.pixG arg)
  | 9 => some (.pixB arg)
  | 10 => some (.pixR arg)
  | 11 => if arg = 0#8 then some .separator else none
  | _ => none

/-- The segment a 16-bit descriptor names; `none` for a reserved or malformed one (R93). -/
def segmentOfWord (w : BitVec 16) : Option Segment :=
  if segReserved w = 0#4 then segmentOfKind (segKind w) (lowByte w) else none

/-- The instruction of a segment kind. -/
def Instr.ofSegment : Segment → Instr
  | .leader => .leader
  | .brk => .brk
  | .visStart => .visStart
  | .visBit bit => .visBit bit
  | .visParity bit => .visParity bit
  | .visStop => .visStop
  | .sync => .sync
  | .porch => .porch
  | .pixG v => .pixG v
  | .pixB v => .pixB v
  | .pixR v => .pixR v
  | .separator => .separator

/-- `011ssssx` (R100): is the byte an SSID byte with extension bit `x`? -/
def isSsidByte (x : Bool) (d : Byte) : Bool := d >>> 5 == 3#8 && d.getLsbD 0 == x

/-- Bits 4:1 of an SSID byte (R100). -/
def ssidField (d : Byte) : BitVec 4 := (d >>> 1).setWidth 4

/-- Decoding the word of a field that is one byte wide. -/
def decodeByte (slot : Slot) (d : Byte) : Decoded :=
  match slot with
  | .addrChar => if d.getLsbD 0 then .reject .malformedWord else .ok (.addrChar ((d >>> 1).setWidth 7))
  | .ssidDst => if isSsidByte false d then .ok (.addrSsidMore (ssidField d)) else .reject .malformedWord
  | .ssidSrc => if isSsidByte true d then .ok (.addrSsidLast (ssidField d)) else .reject .malformedWord
  | .control => if d = 0x03#8 then .ok .ctrlUi else .reject .malformedWord
  | .pid => if d = 0xF0#8 then .ok .pidNol3 else .reject .malformedWord
  | .info => .ok (.infoByte d)
  | .fcsLo => .ok .fcsLo
  | .fcsHi => .ok .fcsHi
  | .kissOpen => if d = 0xC0#8 then .ok .kissFendOpen else .reject .malformedWord
  | .kissCommand => if d = 0x00#8 then .ok .kissCmdData else .reject .malformedWord
  | .kissData => if kissLiteral d then .ok (.kissLit d) else .reject .malformedWord
  | .kissClose => if d = 0xC0#8 then .ok .kissFendClose else .reject .malformedWord
  | .segment => .reject .malformedWord
  | .sample => .reject .malformedWord

/-- Decoding the word of a field that is two bytes wide, `first` the byte written first (DEDUCED, log 7). -/
def decodePair (slot : Slot) (first second : Byte) : Decoded :=
  match slot with
  | .segment =>
    match segmentOfWord (word16 first second) with
    | some sg => .ok (Instr.ofSegment sg)
    | none => .reject .malformedDescriptor
  | .sample => .ok (.sampleSerialize (word16 second first))
  | .kissData =>
    if first = 0xDB#8 ∧ second = 0xDC#8 then .ok .kissEscFend
    else if first = 0xDB#8 ∧ second = 0xDD#8 then .ok .kissEscFesc
    else .reject .malformedWord
  | _ => .reject .malformedWord

/-- Decoding a unit's word. -/
def decodeUnit (slot : Slot) (word : Bytes) : Decoded :=
  match word with
  | [d] => decodeByte slot d
  | [first, second] => decodePair slot first second
  | _ => .reject .malformedWord

/-- Decoding a host transaction (R108, R109). -/
def decodeHost (code : Byte) (arg : HostArg) : Decoded :=
  match code.toNat, arg with
  | 0x00, .none => .ok .reset
  | 0x01, .grid g => .ok (.start g)
  | 0x02, .setting k v => if cfgShapeOk k v then .ok (.cfgSet k v) else .reject .operandType
  | 0x03, .reg k => .ok (.cfgRead k)
  | 0x04, .none => .ok .statusRead
  | 0x05, .none => .ok .writeOk
  | 0x06, .none => .ok .writeErr
  | 0x80, _ => .reject .blockCodeFromHost
  | n, _ => if n ≤ 0x06 then .reject .operandType else .reject .reservedHostCode

/-- Decoding any item. -/
def decode (it : Item) : Decoded :=
  match it with
  | .host code arg => decodeHost code arg
  | .block code payload => if code = 0x80#8 then .ok (.sinkWrite payload) else .reject .unknownBlockCode
  | .unit slot word => decodeUnit slot word

/-! The encoder. -/

/-- The 16-bit descriptor of a segment (R91, R92). -/
def segWord : Segment → BitVec 16
  | .leader => 0x0#4 ++ 0#4 ++ 0#8
  | .brk => 0x1#4 ++ 0#4 ++ 0#8
  | .visStart => 0x2#4 ++ 0#4 ++ 0#8
  | .visBit bit => 0x3#4 ++ 0#4 ++ (BitVec.ofBool bit).setWidth 8
  | .visParity bit => 0x4#4 ++ 0#4 ++ (BitVec.ofBool bit).setWidth 8
  | .visStop => 0x5#4 ++ 0#4 ++ 0#8
  | .sync => 0x6#4 ++ 0#4 ++ 0#8
  | .porch => 0x7#4 ++ 0#4 ++ 0#8
  | .pixG v => 0x8#4 ++ 0#4 ++ v
  | .pixB v => 0x9#4 ++ 0#4 ++ v
  | .pixR v => 0xA#4 ++ 0#4 ++ v
  | .separator => 0xB#4 ++ 0#4 ++ 0#8

/-- The item of a segment descriptor, byte 15:8 written first (DEDUCED, log 7). -/
def segItem (sg : Segment) : Item := .unit .segment [highByte (segWord sg), lowByte (segWord sg)]

/-- `ccccccc0` (R99). -/
def charWord (ch : BitVec 7) : Byte := ch ++ 0#1

/-- `011ssssx` (R100). -/
def ssidWord (ssid : BitVec 4) (x : Bool) : Byte := 0b011#3 ++ ssid ++ BitVec.ofBool x

/-- The item that encodes an instruction, in a frame whose FCS is `fcs` (the operand of FCS_LO and FCS_HI, R213, R214);
`none` for the three internal steps, which have no encoding. -/
def encode (fcs : BitVec 16) : Instr → Option Item
  | .leader => some (segItem .leader)
  | .brk => some (segItem .brk)
  | .visStart => some (segItem .visStart)
  | .visBit bit => some (segItem (.visBit bit))
  | .visParity bit => some (segItem (.visParity bit))
  | .visStop => some (segItem .visStop)
  | .sync => some (segItem .sync)
  | .porch => some (segItem .porch)
  | .pixG v => some (segItem (.pixG v))
  | .pixB v => some (segItem (.pixB v))
  | .pixR v => some (segItem (.pixR v))
  | .separator => some (segItem .separator)
  | .sampleSerialize smp => some (.unit .sample [lowByte smp, highByte smp])
  | .addrChar ch => some (.unit .addrChar [charWord ch])
  | .addrSsidMore ssid => some (.unit .ssidDst [ssidWord ssid false])
  | .addrSsidLast ssid => some (.unit .ssidSrc [ssidWord ssid true])
  | .ctrlUi => some (.unit .control [0b00000011#8])
  | .pidNol3 => some (.unit .pid [0b11110000#8])
  | .infoByte d => some (.unit .info [d])
  | .fcsLo => some (.unit .fcsLo [lowByte fcs])
  | .fcsHi => some (.unit .fcsHi [highByte fcs])
  | .kissFendOpen => some (.unit .kissOpen [0b11000000#8])
  | .kissCmdData => some (.unit .kissCommand [0b00000000#8])
  | .kissLit d => some (.unit .kissData [d])
  | .kissEscFend => some (.unit .kissData [0b11011011#8, 0b11011100#8])
  | .kissEscFesc => some (.unit .kissData [0b11011011#8, 0b11011101#8])
  | .kissFendClose => some (.unit .kissClose [0b11000000#8])
  | .reset => some (.host 0x00#8 .none)
  | .start g => some (.host 0x01#8 (.grid g))
  | .cfgSet k v => some (.host 0x02#8 (.setting k v))
  | .cfgRead k => some (.host 0x03#8 (.reg k))
  | .statusRead => some (.host 0x04#8 .none)
  | .writeOk => some (.host 0x05#8 .none)
  | .writeErr => some (.host 0x06#8 .none)
  | .sinkWrite b => some (.block 0x80#8 b)
  | .toneSample => none
  | .seqStep => none
  | .crcUpdate _ => none

/-! Reading a word as spec/opcode_table.json numbers it. -/

/-- Does an item decode? -/
def decodes (it : Item) : Bool :=
  match decode it with
  | .ok _ => true
  | .reject _ => false

/-- The first item of a list that decodes, or the default. -/
def firstDecoding (default : Item) : List Item → Item
  | [] => default
  | it :: rest => if decodes it then it else firstDecoding default rest

/-- The operands of a host transaction when every operand bit is 0: the 0 × 0 grid, register 0, the empty string (DESIGN CHOICE, log 8). -/
def zeroArg (code : Byte) : HostArg :=
  match code.toNat with
  | 0x01 => .grid { w := 0, h := 0, px := [] }
  | 0x02 => .setting 0#8 (.str [])
  | 0x03 => .reg 0#8
  | _ => .none

/-- The item of an 8-bit table word. Several formats share their words, so the fields are tried in this order: the host's
transactions, the block's, the SSID bytes, PID, FEND, a callsign character, and last an information byte (DESIGN CHOICE, log 6). -/
def byteItem (d : Byte) : Item :=
  firstDecoding (.unit .info [d])
    [.host d (zeroArg d), .block d [], .unit .ssidDst [d], .unit .ssidSrc [d], .unit .pid [d], .unit .kissOpen [d],
      .unit .addrChar [d]]

/-- The item of a 16-bit table word, bits 15:8 the byte written first: a segment descriptor, a KISS escape, and last a
sample (DESIGN CHOICE, log 6; DEDUCED, log 7). -/
def pairItem (first second : Byte) : Item :=
  firstDecoding (.unit .sample [first, second]) [.unit .segment [first, second], .unit .kissData [first, second]]

/-- The item of the instruction whose bits, as the opcode table numbers them, are `w`. A row of another width is none. -/
def tableItem (nbits w : Nat) : Item :=
  if nbits = 8 then byteItem (BitVec.ofNat 8 w)
  else if nbits = 16 then pairItem (BitVec.ofNat 8 (w / 256)) (BitVec.ofNat 8 w)
  else .unit .segment []

/-- The instruction the decoder reads from a table word. -/
def decodeTableWord (nbits w : Nat) : Option Instr :=
  match decode (tableItem nbits w) with
  | .ok i => some i
  | .reject _ => none

end Sys2Proof
end

