-- ==== Sys2Proof/Machine/State.lean ====
section
/-! DEFINITION. The state of WSSTV-CORE as plain data (10_state.md R20 to R40), the reasons a step can stop, and the machine
right after power-on (70_reset_and_hazards.md R380, R381). -/

namespace Sys2Proof.Machine

/-- `STATE` (10_state.md R29). -/
inductive CtlState where
  | idle
  | waitWrite
  | done
  | error
  deriving DecidableEq, Repr

/-- The names `ERR_CODE` takes (10_state.md R30; 60_exceptions.md R330). Values 5..255 are never written. -/
inductive ErrCode where
  | none
  | invalidDimensions
  | invalidCallsign
  | transportError
  | invalidConfiguration
  deriving DecidableEq, Repr

/-- Which callsign an InvalidCallsign names (R31). -/
inductive Which where
  | dst
  | src
  deriving DecidableEq, Repr

/-- Why a callsign is invalid (R31, R335). -/
inductive CallReason where
  | tooLong
  | empty
  | badChar
  | badSsid
  deriving DecidableEq, Repr

/-- Why a configuration register is invalid (R31, R333). -/
inductive CfgReason where
  | unset
  | range
  deriving DecidableEq, Repr

/-- `ERR_DETAIL` (10_state.md R31). -/
inductive ErrDetail where
  | none
  | dim (w h len : Nat)
  | call (which : Which) (reason : CallReason)
  | frame (idx : BitVec 32)
  | cfg (k : Nat) (reason : CfgReason)
  deriving DecidableEq, Repr

/-- A configuration register: its `set` bit and the value beside it (10_state.md R21, R23). -/
structure Reg (α : Type) where
  set : Bool
  value : α
  deriving DecidableEq, Repr

/-- The six configuration registers `cfg` (10_state.md R21). -/
structure ConfigRegs where
  dstCall : Reg Bytes
  dstSsid : Reg (BitVec 8)
  srcCall : Reg Bytes
  srcSsid : Reg (BitVec 8)
  maxPayload : Reg (BitVec 16)
  sampleRate : Reg (BitVec 32)
  deriving DecidableEq, Repr

/-- The latched copy `lcfg` (10_state.md R26). -/
structure ConfigValues where
  dstCall : Bytes
  dstSsid : BitVec 8
  srcCall : Bytes
  srcSsid : BitVec 8
  maxPayload : BitVec 16
  sampleRate : BitVec 32
  deriving DecidableEq, Repr

/-- The tone sequencer's registers (10_state.md R36). `phase` and `inc` hold `PHASE_BITS`-bit values (DESIGN CHOICE, log 28). -/
structure SeqRegs where
  segIdx : BitVec 18
  sampleIdx : BitVec 32
  segEnd : BitVec 32
  phase : BitVec 32
  inc : BitVec 32
  tNs : BitVec 37
  deriving DecidableEq, Repr

/-- What STATUS_READ returns (10_state.md R28; 44_cycle_control.md R282), at the widths of R28. -/
structure StatusRecord where
  state : BitVec 2
  errCode : BitVec 8
  errDetail : ErrDetail
  framesTotal : BitVec 32
  framesWritten : BitVec 32
  pv : Bool
  deriving DecidableEq, Repr

/-- A value handed back to the host by a read (R282); `cfg k none` is UNSET. -/
inductive Reply where
  | cfg (k : Byte) (value : Option CfgValue)
  | status (r : StatusRecord)
  deriving DecidableEq, Repr

/-- The reasons a step stops with a fault. -/
inductive Fault where
  /-- Raised where SINK_WRITE would take `FQ[FRAME_IDX]` and the queue has no such frame (R286, R287). No run reaches it
  (R34). Safe: the machine stops where the spec gives no byte string. -/
  | frameQueueIndex
  deriving DecidableEq, Repr

/-- The reasons a step has no meaning. -/
inductive Refusal where
  /-- Raised by `exec` for an instruction without a meaning. Safe. -/
  | notModelled (mnemonic : String)
  /-- Raised on a reserved or malformed segment descriptor: "a model that is handed one … refuses it: it has no meaning"
  (30_encoding.md R93). Safe. -/
  | malformedDescriptor
  /-- Raised on a word that its field's pattern does not admit, "never produced" (R109), and on a block transaction other
  than SINK_WRITE (R108). Safe. -/
  | malformedWord
  /-- Raised on a host transaction whose operand has not the operand type: one that "is not an operand the host can send"
  (44_cycle_control.md R281). Safe. -/
  | operandType
  /-- Raised by KISS_LIT on 0xC0 or 0xDB, which are no operand of it (43_kiss_encoder.md R253). Safe. -/
  | literalNeedsEscape
  deriving DecidableEq, Repr

/-- The state (10_state.md R20), the data spaces (20_memory.md R60) and, last, the model's own two ends of the host
interface. -/
structure State where
  /-- Configuration registers (R21). -/
  cfg : ConfigRegs
  /-- Configuration latched at START (R26). -/
  lcfg : ConfigValues
  /-- Grid latched at START (R27). -/
  grid : PixelGrid
  /-- `STATE` (R29). -/
  ctl : CtlState
  /-- `ERR_CODE` (R30). -/
  errCode : ErrCode
  /-- `ERR_DETAIL` (R31). -/
  errDetail : ErrDetail
  /-- `FRAMES_TOTAL` (R32). -/
  framesTotal : BitVec 32
  /-- `FRAMES_WRITTEN` (R32). -/
  framesWritten : BitVec 32
  /-- `FQ` (R33). -/
  fq : List Bytes
  /-- `FRAME_IDX` (R34). -/
  frameIdx : BitVec 32
  /-- `PV` (R35). -/
  pv : Bool
  /-- Tone sequencer registers (R36). -/
  seq : SeqRegs
  /-- `CRC` (R37). -/
  crc : BitVec 16
  /-- `CHUNK_OFF` (R37). -/
  chunkOff : BitVec 32
  /-- The SampleStream being built (R13, R161). -/
  samples : List Sample
  /-- The serialised stream `SB` being built (R60, R65). -/
  sb : Bytes
  /-- The frame space (R60). -/
  frame : Bytes
  /-- The KISS encoder's output (R251 to R257). -/
  kiss : Bytes
  /-- The byte sink: every SINK_WRITE handed over, in order (R60, R66, R294). -/
  sink : List Bytes
  /-- Every value returned by CFG_READ and STATUS_READ, in order (R282, R294). -/
  replies : List Reply
  /-- What waits to be taken, oldest first (DESIGN CHOICE, log 4). -/
  inbox : List Item
  deriving DecidableEq, Repr

/-- Every configuration register UNSET (R381). The values beside the clear bits are DESIGN CHOICE (log 9). -/
def ConfigRegs.unset : ConfigRegs :=
  { dstCall := { set := false, value := [] }
    dstSsid := { set := false, value := 0 }
    srcCall := { set := false, value := [] }
    srcSsid := { set := false, value := 0 }
    maxPayload := { set := false, value := 0 }
    sampleRate := { set := false, value := 0 } }

/-- `lcfg` before any START: unspecified (R381), DESIGN CHOICE (log 10). -/
def ConfigValues.zero : ConfigValues :=
  { dstCall := [], dstSsid := 0, srcCall := [], srcSsid := 0, maxPayload := 0, sampleRate := 0 }

/-- The sequencer registers before any cycle: unspecified (R381), DESIGN CHOICE (log 12). -/
def SeqRegs.zero : SeqRegs :=
  { segIdx := 0, sampleIdx := 0, segEnd := 0, phase := 0, inc := 0, tNs := 0 }

/-- The machine right after power-on (R380, R381). `grid`, `crc`, `chunkOff`, the data spaces and the two ends of the host
interface are DESIGN CHOICE (logs 11, 13, 14, 15 and 4). -/
def State.reset : State :=
  { cfg := ConfigRegs.unset
    lcfg := ConfigValues.zero
    grid := { w := 0, h := 0, px := [] }
    ctl := .idle
    errCode := .none
    errDetail := .none
    framesTotal := 0
    framesWritten := 0
    fq := []
    frameIdx := 0
    pv := false
    seq := SeqRegs.zero
    crc := 0xFFFF
    chunkOff := 0
    samples := []
    sb := []
    frame := []
    kiss := []
    sink := []
    replies := []
    inbox := [] }

end Sys2Proof.Machine
end

