-- ==== Sys2Proof/Machine/Ops.lean ====
section
/-! DEFINITION. The named operations over the state: writing each register and data space, raising an error (60_exceptions.md
R337) and leaving it, issuing a SINK_WRITE (44_cycle_control.md R286), and taking the next item of `inbox`. -/

namespace Sys2Proof.Machine

/-- What a step answers. -/
abbrev Res := Host.Outcome State Fault Refusal

/-! Writing one part of the state. -/

/-- Sets the protocol-violation mark and changes nothing else (10_state.md R35; 60_exceptions.md R340). -/
def State.markPv (s : State) : State := { s with pv := true }

/-- Appends bytes to the frame space (20_memory.md R60). -/
def State.emitFrame (s : State) (b : Bytes) : State := { s with frame := s.frame ++ b }

/-- Appends bytes to the KISS encoder's output. -/
def State.emitKiss (s : State) (b : Bytes) : State := { s with kiss := s.kiss ++ b }

/-- Appends bytes to the serialised stream `SB` (20_memory.md R65). -/
def State.emitSb (s : State) (b : Bytes) : State := { s with sb := s.sb ++ b }

/-- Hands a value back to the host (44_cycle_control.md R282). -/
def State.reply (s : State) (r : Reply) : State := { s with replies := s.replies ++ [r] }

/-- `SinkWrite(b)`: hands the byte string to the host as one write transaction (20_memory.md R66). -/
def State.sinkWrite (s : State) (b : Bytes) : State := { s with sink := s.sink ++ [b] }

/-- Writes the FCS register. -/
def State.setCrc (s : State) (c : BitVec 16) : State := { s with crc := c }

/-- Writes `CHUNK_OFF`. -/
def State.setChunkOff (s : State) (n : BitVec 32) : State := { s with chunkOff := n }

/-- Writes the sequencer registers and the sample stream. -/
def State.withSeq (s : State) (r : SeqRegs) (xs : List Sample) : State := { s with seq := r, samples := xs }

/-- Writes the configuration registers. -/
def State.withCfg (s : State) (c : ConfigRegs) : State := { s with cfg := c }

/-- Replaces what waits to be taken. -/
def State.withInbox (s : State) (l : List Item) : State := { s with inbox := l }

/-- Empties the data spaces that one cycle fills and does not keep (41_sstv_tone_sequencer.md R170; 43_kiss_encoder.md R263;
DEDUCED, log 14). -/
def State.clearSpaces (s : State) : State := { s with samples := [], sb := [], frame := [], kiss := [] }

/-- Writes the frame queue and `FRAMES_TOTAL`, its length (44_cycle_control.md R283). -/
def State.queueFrames (s : State) (q : List Bytes) : State :=
  { s with fq := q, framesTotal := BitVec.ofNat 32 q.length }

/-- The cycle is over with every frame written: `STATE <- DONE; FQ <- []` (R287, R290, R291). -/
def State.complete (s : State) : State := { s with ctl := .done, fq := [] }

/-- `STATE <- WAIT_WRITE` (R283). -/
def State.awaitWrite (s : State) : State := { s with ctl := .waitWrite }

/-- The host accepted the outstanding frame: both counters advance by 1 (R287). -/
def State.countWritten (s : State) : State :=
  { s with framesWritten := s.framesWritten + 1, frameIdx := s.frameIdx + 1 }

/-! Errors. -/

/-- Error entry, the one operation that raises any error (60_exceptions.md R337): it "writes exactly this". -/
def State.raiseError (s : State) (code : ErrCode) (detail : ErrDetail) : State :=
  { s with errCode := code, errDetail := detail, ctl := .error, fq := [] }

/-- Leaving an error: there is no return transaction (R339), and the next START begins by clearing the status of the cycle
before it (44_cycle_control.md R283). -/
def State.clearStatus (s : State) : State :=
  { s with errCode := .none, errDetail := .none, framesTotal := 0, framesWritten := 0, frameIdx := 0, fq := [] }

/-- The state RESET leaves (44_cycle_control.md R292; 70_reset_and_hazards.md R380): the reset state, except PV and what is
not the block's, the sink, the values read and the transactions still to come (DESIGN CHOICE, log 15). -/
def State.resetKeeping (s : State) : State :=
  { State.reset with pv := s.pv, sink := s.sink, replies := s.replies, inbox := s.inbox }

/-! Latching (10_state.md R26, R27). -/

/-- The register's value where its set bit is 1, the old latched value where it is 0 (R283). -/
def latchReg {α : Type} (r : Reg α) (old : α) : α := if r.set then r.value else old

/-- `lcfg` after START's latching loop (R283). -/
def latchCfg (c : ConfigRegs) (old : ConfigValues) : ConfigValues :=
  { dstCall := latchReg c.dstCall old.dstCall
    dstSsid := latchReg c.dstSsid old.dstSsid
    srcCall := latchReg c.srcCall old.srcCall
    srcSsid := latchReg c.srcSsid old.srcSsid
    maxPayload := latchReg c.maxPayload old.maxPayload
    sampleRate := latchReg c.sampleRate old.sampleRate }

/-- START's latching of the configuration and its copy of the grid (R283). -/
def State.latch (s : State) (g : PixelGrid) : State := { s with lcfg := latchCfg s.cfg s.lcfg, grid := g }

/-! The outstanding write. -/

/-- The outstanding write: "while STATE = WAIT_WRITE, exactly one write is outstanding, that of frame FRAME_IDX. In every
other state none is" (44_cycle_control.md R286; DEDUCED, log 16). -/
def State.outstanding (s : State) : Option Bytes :=
  if s.ctl = .waitWrite then s.fq[s.frameIdx.toNat]? else none

/-- `issue SINK_WRITE(FQ[FRAME_IDX])` (R286). -/
def issueWrite (s : State) : Res :=
  match s.fq[s.frameIdx.toNat]? with
  | some b => .next (s.sinkWrite b)
  | none => .fault .frameQueueIndex

/-! Taking the next item. -/

/-- The oldest waiting item and the state without it. -/
def fetchNext (s : State) : Option (Item × State) :=
  match s.inbox with
  | [] => none
  | it :: rest => some (it, s.withInbox rest)

/-- What an item that is no instruction does. A reserved code, and a code the host may not send, set PV (R293, R35; DEDUCED, log 22);
the rest have no meaning and are refused (R93, R109, R281). -/
def onReject (r : Reject) (s : State) : Res :=
  match r with
  | .reservedHostCode => .next s.markPv
  | .blockCodeFromHost => .next s.markPv
  | .operandType => .refused .operandType
  | .malformedDescriptor => .refused .malformedDescriptor
  | .malformedWord => .refused .malformedWord
  | .unknownBlockCode => .refused .malformedWord

/-- Puts the item of a table word where the next step takes it. -/
def placeWord (s : State) (nbits w : Nat) : State := s.withInbox (tableItem nbits w :: s.inbox)

end Sys2Proof.Machine
end

