-- ==== Sys2Proof/Machine/Operands.lean ====
section
/-! DEFINITION. Operand assembly: tones and durations (30_encoding.md R92, R96, R97), the VIS code (41_sstv_tone_sequencer.md
R146, R147), pixels (20_memory.md R62), sample boundaries and phase increments (R158, R160), and callsign padding
(42_ax25_framer.md R201). -/

namespace Sys2Proof.Machine

/-- A tone: its frequency, the positive rational `num / den` Hz, and its duration in ns (R92, R97). -/
structure Tone where
  num : Nat
  den : Nat
  dur : Nat
  deriving DecidableEq, Repr

/-- The tone of a VIS data or parity cell: "1100 Hz (0) or 1300 Hz (1)", 30 ms (R146, R147). -/
def visCell (bit : Bool) : Tone := { num := if bit then 1300 else 1100, den := 1, dur := 30000000 }

/-- The tone of a pixel slot: `FPIX(v) = (382500 + 800 v) / 255` Hz, 0.4576 ms (R96, R152). -/
def pixelTone (v : Byte) : Tone := { num := 382500 + 800 * v.toNat, den := 255, dur := 457600 }

/-- The table of R92. -/
def segTone : Segment → Tone
  | .leader => { num := 1900, den := 1, dur := 300000000 }
  | .brk => { num := 1200, den := 1, dur := 10000000 }
  | .visStart => { num := 1200, den := 1, dur := 30000000 }
  | .visBit bit => visCell bit
  | .visParity bit => visCell bit
  | .visStop => { num := 1200, den := 1, dur := 30000000 }
  | .sync => { num := 1200, den := 1, dur := 4862000 }
  | .porch => { num := 1500, den := 1, dur := 572000 }
  | .pixG v => pixelTone v
  | .pixB v => pixelTone v
  | .pixR v => pixelTone v
  | .separator => { num := 1500, den := 1, dur := 572000 }

/-- `d_i = VIS_CODE[i]`, least significant bit first (R146). -/
def visBits (P : Params) : List Bool := (List.range P.visDataBits).map fun i => Config.visCode.testBit i

/-- `p = (d_0 + d_1 + ...) mod 2` (R147). -/
def visParity (P : Params) : Bool := (visBits P).count true % 2 == 1

/-- `PixelRead(x, y) = grid.px[y × W + x]` (20_memory.md R62); where the grid has no such pixel, a free value (DESIGN CHOICE, log 19). -/
def pixelRead (g : PixelGrid) (x y : Nat) : Pixel := g.px.getD (y * Config.W + x) (Config.pixelOutside x y)

/-- Integer `ceil(n / d)` for `d > 0` (00_scope.md R10). -/
def ceilDiv (n d : Nat) : Nat := if n % d = 0 then n / d else n / d + 1

/-- `ceil(T × fs / 10^9)`: the first sample whose instant is `T` ns or later (R158). -/
def sampleAt (fs t : Nat) : Nat := ceilDiv (t * fs) 1000000000

/-- `INC(a / b) = floor((2 × a × 2^PHASE_BITS + b × fs) / (2 × b × fs)) mod 2^PHASE_BITS` (R160). At `fs = 0`, where R160
states no result, the numerator of the reduction is a free value (DESIGN CHOICE, log 18). -/
def phaseInc (P : Params) (fs : Nat) (t : Tone) : Nat :=
  (if fs = 0 then Config.incAtRateZero t.num t.den
    else (2 * t.num * 2 ^ P.phaseBits + t.den * fs) / (2 * t.den * fs)) % 2 ^ P.phaseBits

/-- The sample of a phase: `SINE(PHASE)` as a 16-bit two's-complement value (R98, R161, R162). -/
def sineSample (P : Params) (phase : Nat) : Sample := BitVec.ofInt 16 (P.sine phase)

/-- `PAD(c)`: a callsign padded on the right with spaces to 6 bytes (42_ax25_framer.md R201). -/
def padCall (c : Bytes) : Bytes := c ++ List.replicate (6 - c.length) 0x20#8

end Sys2Proof.Machine
end

