-- ==== Sys2Proof/Machine/Flags.lean ====
section
/-! DEFINITION. The status side. No instruction computes an arithmetic flag ("Flags: none" in every rule of 41 to 43;
10_state.md R39); what the block has instead are the numeric status codes (R29, R30), the status record (R282) and the
checks of START (60_exceptions.md R332 to R335). -/

namespace Sys2Proof.Machine

/-- The encoding of `STATE` (10_state.md R29). -/
def stateCode : CtlState → BitVec 2
  | .idle => 0
  | .waitWrite => 1
  | .done => 2
  | .error => 3

/-- The encoding of `ERR_CODE` (10_state.md R30; 60_exceptions.md R330). -/
def errNumber : ErrCode → BitVec 8
  | .none => 0
  | .invalidDimensions => 1
  | .invalidCallsign => 2
  | .transportError => 3
  | .invalidConfiguration => 4

/-- What STATUS_READ returns (44_cycle_control.md R282). -/
def statusOf (s : State) : StatusRecord :=
  { state := stateCode s.ctl
    errCode := errNumber s.errCode
    errDetail := s.errDetail
    framesTotal := s.framesTotal
    framesWritten := s.framesWritten
    pv := s.pv }

/-- A callsign character: 'A'..'Z' or '0'..'9' (R335). -/
def isCallChar (d : Byte) : Bool :=
  (0x41 ≤ d.toNat && d.toNat ≤ 0x5A) || (0x30 ≤ d.toNat && d.toNat ≤ 0x39)

/-- A callsign with every trailing space removed (R335). -/
def stripSpaces (c : Bytes) : Bytes := (c.reverse.dropWhile (· == 0x20#8)).reverse

/-- `CALLCHECK(c, ssid)`: the first failing reason, `none` for OK (R335). -/
def callCheck (c : Bytes) (ssid : BitVec 8) : Option CallReason :=
  if 6 < c.length then some .tooLong
  else if stripSpaces c = [] then some .empty
  else if !(stripSpaces c).all isCallChar then some .badChar
  else if 15 < ssid.toNat then some .badSsid
  else none

/-- The lowest register that is UNSET (R332, R333). -/
def firstUnset (c : ConfigRegs) : Option Nat :=
  if !c.dstCall.set then some 0
  else if !c.dstSsid.set then some 1
  else if !c.srcCall.set then some 2
  else if !c.srcSsid.set then some 3
  else if !c.maxPayload.set then some 4
  else if !c.sampleRate.set then some 5
  else none

/-- A legal sample rate: 1 to 1 000 000 (R333). -/
def rateLegal (fs : Nat) : Bool := 1 ≤ fs && fs ≤ 1000000

/-- The dimension check of R334. -/
def gridLegal (g : PixelGrid) : Bool := g.w == Config.W && g.h == Config.H && g.px.length == g.w * g.h

/-- An error and its detail (R330). -/
structure CycleError where
  code : ErrCode
  detail : ErrDetail
  deriving DecidableEq, Repr

/-- The checks of R332 that follow the configuration's: dimensions, destination, source. -/
def validateGridAndCalls (c : ConfigRegs) (g : PixelGrid) : Option CycleError :=
  if !gridLegal g then some { code := .invalidDimensions, detail := .dim g.w g.h g.px.length }
  else match callCheck c.dstCall.value c.dstSsid.value with
    | some r => some { code := .invalidCallsign, detail := .call .dst r }
    | none =>
      match callCheck c.srcCall.value c.srcSsid.value with
      | some r => some { code := .invalidCallsign, detail := .call .src r }
      | none => none

/-- `VALIDATE(cfg, g)`: the first failure in the order of R332, `none` when every check passes. -/
def validate (c : ConfigRegs) (g : PixelGrid) : Option CycleError :=
  match firstUnset c with
  | some k => some { code := .invalidConfiguration, detail := .cfg k .unset }
  | none =>
    if c.maxPayload.value.toNat = 0 then some { code := .invalidConfiguration, detail := .cfg 4 .range }
    else if !rateLegal c.sampleRate.value.toNat then some { code := .invalidConfiguration, detail := .cfg 5 .range }
    else validateGridAndCalls c g

end Sys2Proof.Machine
end

