-- ==== Sys2Proof/Machine/Sequencer.lean ====
section
/-! DEFINITION. The tone generator and sample sequencer (41_sstv_tone_sequencer.md): the schedule, the register machine of
R164, the stream of R158 and R161 as a function of its own, and the meanings of the twelve segment kinds, TONE_SAMPLE,
SEQ_STEP and SAMPLE_SERIALIZE. -/

namespace Sys2Proof.Machine

/-! The schedule. -/

/-- The VIS header (R149). -/
def visHeader (P : Params) : List Segment :=
  [.leader, .brk, .leader, .visStart] ++ (visBits P).map Segment.visBit ++ [.visParity (visParity P), .visStop]

/-- One channel scan of line `y`: a pixel slot for each x = 0, 1, ..., W − 1 (R152 to R154). -/
def scanOf (g : PixelGrid) (y : Nat) (slot : Pixel → Segment) : List Segment :=
  (List.range Config.W).map fun x => slot (pixelRead g x y)

/-- Scan line `y` (R156). -/
def scanLine (g : PixelGrid) (y : Nat) : List Segment :=
  [.sync, .porch] ++ scanOf g y (fun p => .pixG p.g) ++ [.separator]
    ++ scanOf g y (fun p => .pixB p.b) ++ [.separator]
    ++ scanOf g y (fun p => .pixR p.r) ++ [.separator]

/-- `SCHED(grid)` (R142). -/
def schedule (P : Params) (g : PixelGrid) : List Segment :=
  visHeader P ++ (List.range Config.H).flatMap (scanLine g)

/-! The sequencer as hardware (R164). -/

/-- The registers after one TONE_SAMPLE: the phase advances by the increment (R161), the index of the next sample by 1 (R36, R164;
DEDUCED, log 29). -/
def toneStep (P : Params) (r : SeqRegs) : SeqRegs :=
  { r with
    phase := BitVec.ofNat 32 ((r.phase.toNat + r.inc.toNat) % 2 ^ P.phaseBits)
    sampleIdx := r.sampleIdx + 1 }

/-- `k` times TONE_SAMPLE: emit `SINE(PHASE)`, then advance (R161, R164). -/
def toneRun (P : Params) : Nat → SeqRegs → List Sample → SeqRegs × List Sample
  | 0, r, xs => (r, xs)
  | k + 1, r, xs => toneRun P k (toneStep P r) (xs ++ [sineSample P r.phase.toNat])

/-- The two registers a segment loads: its end and its increment (R164). -/
def segLoad (P : Params) (fs : Nat) (t : Tone) (r : SeqRegs) : SeqRegs :=
  { r with
    segEnd := BitVec.ofNat 32 (sampleAt fs (r.tNs.toNat + t.dur))
    inc := BitVec.ofNat 32 (phaseInc P fs t) }

/-- A segment is over: its duration is added to `T_NS`, and `SEG_IDX` moves to the next (R164). -/
def segDone (t : Tone) (r : SeqRegs) : SeqRegs :=
  { r with tNs := BitVec.ofNat 37 (r.tNs.toNat + t.dur), segIdx := r.segIdx + 1 }

/-- One round of R164's outer loop: load the segment, emit samples while `SAMPLE_IDX < SEG_END`, close it. -/
def segRun (P : Params) (fs : Nat) (t : Tone) (r : SeqRegs) (xs : List Sample) : SeqRegs × List Sample :=
  let r1 := segLoad P fs t r
  let out := toneRun P (r1.segEnd.toNat - r1.sampleIdx.toNat) r1 xs
  (segDone t out.1, out.2)

/-- R164's initialisation. -/
def seqInit (r : SeqRegs) : SeqRegs := { r with segIdx := 0, sampleIdx := 0, phase := 0, tNs := 0 }

/-- R164's outer loop over the segments still to come. -/
def segLoop (P : Params) (fs : Nat) : List Segment → SeqRegs → List Sample → SeqRegs × List Sample
  | [], r, xs => (r, xs)
  | sg :: rest, r, xs =>
    let out := segRun P fs (segTone sg) r xs
    segLoop P fs rest out.1 out.2

/-- R164 whole: the walk of the schedule, from its initialisation to the last segment. -/
def seqWalk (P : Params) (fs : Nat) (g : PixelGrid) (r : SeqRegs) : SeqRegs × List Sample :=
  segLoop P fs (schedule P g) (seqInit r) []

/-! The stream as R158 and R161 define it, without registers. -/

/-- For each sample of the stream, in order, the increment of the segment that holds it: segment k, starting at `t` ns, holds
`S(k+1) − S(k)` samples (R158, R160). -/
def sampleIncs (P : Params) (fs : Nat) : Nat → List Segment → List Nat
  | _, [] => []
  | t, sg :: rest =>
    List.replicate (sampleAt fs (t + (segTone sg).dur) - sampleAt fs t) (phaseInc P fs (segTone sg))
      ++ sampleIncs P fs (t + (segTone sg).dur) rest

/-- `PHASE_n`: the sum of the increments of the samples before n, mod 2^PHASE_BITS (R161). -/
def phaseAt (P : Params) (incs : List Nat) (n : Nat) : Nat := (incs.take n).sum % 2 ^ P.phaseBits

/-- `SSTV(grid, fs)` (R140): sample n is `SINE(PHASE_n)` (R161). -/
def sstv (P : Params) (g : PixelGrid) (fs : Nat) : List Sample :=
  let incs := sampleIncs P fs 0 (schedule P g)
  (List.range incs.length).map fun n => sineSample P (phaseAt P incs n)

/-- The duration of a list of segments in ns. -/
def totalDur (segs : List Segment) : Nat := (segs.map fun sg => (segTone sg).dur).sum

/-- `T_TOTAL` (R159): 115 230 176 000 ns with 8 data bits, 115 200 176 000 ns with 7. -/
def totalNs (P : Params) : Nat := if P.visSeven then 115200176000 else 115230176000

/-- `N = ceil(T_TOTAL × fs / 10^9)` (R159). -/
def sampleCount (P : Params) (fs : Nat) : Nat := sampleAt fs (totalNs P)

/-! Serialisation. -/

/-- The two bytes of a sample, low byte first (30_encoding.md R98). -/
def serialSample (smp : Sample) : Bytes := [lowByte smp, highByte smp]

/-- `SB` (R167). -/
def serialStream (xs : List Sample) : Bytes := xs.flatMap serialSample

/-! Meanings. -/

/-- R141: the latched grid has passed the dimension check (60_exceptions.md R334) and the latched rate is legal (R333). -/
def State.unitChecked (s : State) : Bool := gridLegal s.grid && rateLegal s.lcfg.sampleRate.toNat

/-- What every instruction of the unit does to the state, `out` being the registers and the stream it computes: "The unit runs
only on a grid that has passed the dimension check … and with a legal fs" (R141), so on any other it computes no sample and nothing
changes (DEDUCED, log 23). -/
def State.runUnit (s : State) (out : SeqRegs × List Sample) : State :=
  if s.unitChecked then s.withSeq out.1 out.2 else s

/-- A segment handed to the sequencer: the tone of R92, then its samples by R158 and R161, as one round of R164. -/
def runSegment (P : Params) (sg : Segment) (s : State) : State :=
  s.runUnit (segRun P s.lcfg.sampleRate.toNat (segTone sg) s.seq s.samples)

/-- LEADER (R143). -/
def execLeader (s : State) : Res := .next (runSegment Config.params .leader s)

/-- BREAK (R144). -/
def execBreak (s : State) : Res := .next (runSegment Config.params .brk s)

/-- VIS_START (R145). -/
def execVisStart (s : State) : Res := .next (runSegment Config.params .visStart s)

/-- VIS_BIT (R146). -/
def execVisBit (bit : Bool) (s : State) : Res := .next (runSegment Config.params (.visBit bit) s)

/-- VIS_PARITY (R147). -/
def execVisParity (bit : Bool) (s : State) : Res := .next (runSegment Config.params (.visParity bit) s)

/-- VIS_STOP (R148). -/
def execVisStop (s : State) : Res := .next (runSegment Config.params .visStop s)

/-- SYNC (R150). -/
def execSync (s : State) : Res := .next (runSegment Config.params .sync s)

/-- PORCH (R151). -/
def execPorch (s : State) : Res := .next (runSegment Config.params .porch s)

/-- PIX_G (R152). -/
def execPixG (v : Byte) (s : State) : Res := .next (runSegment Config.params (.pixG v) s)

/-- PIX_B (R153). -/
def execPixB (v : Byte) (s : State) : Res := .next (runSegment Config.params (.pixB v) s)

/-- PIX_R (R154). -/
def execPixR (v : Byte) (s : State) : Res := .next (runSegment Config.params (.pixR v) s)

/-- SEPARATOR (R155). -/
def execSeparator (s : State) : Res := .next (runSegment Config.params .separator s)

/-- One TONE_SAMPLE over the state (R161): emit `SINE(PHASE)`, then advance. -/
def runToneSample (P : Params) (s : State) : State :=
  s.runUnit (toneStep P s.seq, s.samples ++ [sineSample P s.seq.phase.toNat])

/-- TONE_SAMPLE (R161). -/
def execToneSample (s : State) : Res := .next (runToneSample Config.params s)

/-- The walk over the state: R164 on the latched grid and rate (DEDUCED, log 23). -/
def runSeqStep (P : Params) (s : State) : State :=
  s.runUnit (seqWalk P s.lcfg.sampleRate.toNat s.grid s.seq)

/-- SEQ_STEP (R164). -/
def execSeqStep (s : State) : Res := .next (runSeqStep Config.params s)

/-- SAMPLE_SERIALIZE (R167). -/
def execSampleSerialize (smp : Sample) (s : State) : Res := .next (s.emitSb (serialSample smp))

end Sys2Proof.Machine
end

