-- ==== Sys2Proof/Machine/Framer.lean ====
section
/-! DEFINITION. The AX.25 UI frame constructor and its FCS (42_ax25_framer.md): address fields, header, chunks, CRC, frames,
and the meanings of its byte-level operations. -/

namespace Sys2Proof.Machine

/-! Bytes of the header. -/

/-- `out <- (ch << 1) & 0xFF` (R202). -/
def charByte (ch : Byte) : Byte := ch <<< 1

/-- `out <- 0x60 | (ssid << 1) | x` (R203, R204). -/
def ssidByte (ssid : BitVec 8) (x : Byte) : Byte := 0x60#8 ||| (ssid <<< 1) ||| x

/-- The SSID byte of the destination field (R203). -/
def ssidMoreByte (ssid : BitVec 8) : Byte := ssidByte ssid 0#8

/-- The SSID byte of the source field (R204). -/
def ssidLastByte (ssid : BitVec 8) : Byte := ssidByte ssid 1#8

/-- The control byte (R206). -/
def ctrlByte : Byte := 0x03#8

/-- The PID byte (R207). -/
def pidByte : Byte := 0xF0#8

/-- The six shifted characters of a callsign (R205). -/
def callField (c : Bytes) : Bytes := (padCall c).map charByte

/-- `HEADER = DST_FIELD ++ SRC_FIELD ++ [0x03] ++ [0xF0]` (R205, R208). -/
def header (lc : ConfigValues) : Bytes :=
  callField lc.dstCall ++ [ssidMoreByte lc.dstSsid] ++ (callField lc.srcCall ++ [ssidLastByte lc.srcSsid])
    ++ [ctrlByte] ++ [pidByte]

/-! Chunks. -/

/-- `CHUNK(SB, M)[i] = SB[i × M .. min((i+1) × M, B))` for i = 0 .. K−1, K = ceil(B / M) (R209). -/
def chunks (m : Nat) (sb : Bytes) : List Bytes :=
  (List.range (ceilDiv sb.length m)).map fun i => (sb.drop (i * m)).take m

/-! The frame check sequence. -/

/-- One shift of the FCS register (R211). -/
def crcShift (c : BitVec 16) : BitVec 16 := if c.getLsbD 0 then (c >>> 1) ^^^ 0x8408#16 else c >>> 1

/-- `k` shifts. -/
def crcShifts : Nat → BitVec 16 → BitVec 16
  | 0, c => c
  | k + 1, c => crcShifts k (crcShift c)

/-- CRC_UPDATE on one byte (R211). -/
def crcUpdate (c : BitVec 16) (d : Byte) : BitVec 16 := crcShifts 8 (c ^^^ d.setWidth 16)

/-- The value every frame's `CRC` starts from (R212). -/
def crcInit : BitVec 16 := 0xFFFF#16

/-- `CRC` after a byte string (R212). -/
def crcOver (b : Bytes) : BitVec 16 := b.foldl crcUpdate crcInit

/-- `FCS <- CRC ^ 0xFFFF` (R212). -/
def fcsOf (c : BitVec 16) : BitVec 16 := c ^^^ 0xFFFF#16

/-- `FCS & 0xFF` (R213). -/
def fcsLoByte (c : BitVec 16) : Byte := lowByte (fcsOf c)

/-- `FCS >> 8` (R214). -/
def fcsHiByte (c : BitVec 16) : Byte := highByte (fcsOf c)

/-! Frames. -/

/-- One raw frame: header, information field, FCS low byte first (30_encoding.md R101; R215). -/
def ax25Frame (hdr c : Bytes) : Bytes :=
  hdr ++ c ++ [fcsLoByte (crcOver (hdr ++ c)), fcsHiByte (crcOver (hdr ++ c))]

/-- `AX25(SB, ...)` (R200, R215). -/
def ax25 (lc : ConfigValues) (sb : Bytes) : List Bytes :=
  (chunks lc.maxPayload.toNat sb).map (ax25Frame (header lc))

/-- `CRC` after the frames of a cycle: what its last frame left, the old value where there is no frame (R37, R212). -/
def crcAfter (lc : ConfigValues) (sb : Bytes) (old : BitVec 16) : BitVec 16 :=
  match (chunks lc.maxPayload.toNat sb).getLast? with
  | some c => crcOver (header lc ++ c)
  | none => old

/-! Meanings. -/

/-- ADDR_CHAR (R202). -/
def execAddrChar (ch : BitVec 7) (s : State) : Res := .next (s.emitFrame [charByte (ch.setWidth 8)])

/-- ADDR_SSID_MORE (R203). -/
def execAddrSsidMore (ssid : BitVec 4) (s : State) : Res := .next (s.emitFrame [ssidMoreByte (ssid.setWidth 8)])

/-- ADDR_SSID_LAST (R204). -/
def execAddrSsidLast (ssid : BitVec 4) (s : State) : Res := .next (s.emitFrame [ssidLastByte (ssid.setWidth 8)])

/-- CTRL_UI (R206). -/
def execCtrlUi (s : State) : Res := .next (s.emitFrame [ctrlByte])

/-- PID_NOL3 (R207). -/
def execPidNol3 (s : State) : Res := .next (s.emitFrame [pidByte])

/-- INFO_BYTE (R210). `CHUNK_OFF`, "the offset in the serialised stream of the next information byte" (R37), moves past the
byte (DEDUCED, log 25). -/
def execInfoByte (d : Byte) (s : State) : Res := .next ((s.emitFrame [d]).setChunkOff (s.chunkOff + 1))

/-- CRC_UPDATE (R211). It alone moves `CRC`: the operations that output a byte do not (R212; DEDUCED, log 30). -/
def execCrcUpdate (d : Byte) (s : State) : Res := .next (s.setCrc (crcUpdate s.crc d))

/-- FCS_LO (R213), on the FCS that the register `CRC` holds (R212; DEDUCED, log 17). -/
def execFcsLo (s : State) : Res := .next (s.emitFrame [fcsLoByte s.crc])

/-- FCS_HI (R214), likewise. -/
def execFcsHi (s : State) : Res := .next (s.emitFrame [fcsHiByte s.crc])

end Sys2Proof.Machine
end

