-- ==== Sys2Proof/Machine/Kiss.lean ====
section
/-! DEFINITION. The KISS frame delimiter and byte-stuffing engine (43_kiss_encoder.md), the meanings of its six tokens, and the
reference decoder of R260, "not hardware", which only states the round-trip law. -/

namespace Sys2Proof.Machine

/-- FEND (00_scope.md R13). -/
def fend : Byte := 0xC0#8

/-- FESC (R13). -/
def fesc : Byte := 0xDB#8

/-- TFEND, the second byte of an escaped FEND (R13). -/
def tfend : Byte := 0xDC#8

/-- TFESC, the second byte of an escaped FESC (R13). -/
def tfesc : Byte := 0xDD#8

/-- The command byte: data frame, port 0 (R252). -/
def kissCommand : Byte := 0x00#8

/-- `out` of KISS_ESC_FEND (R254). -/
def escFend : Bytes := [fesc, tfend]

/-- `out` of KISS_ESC_FESC (R255). -/
def escFesc : Bytes := [fesc, tfesc]

/-- `ESC(b)` (R257). -/
def kissEsc (d : Byte) : Bytes := if d = fend then escFend else if d = fesc then escFesc else [d]

/-- `KISS(raw)` (R257). -/
def kissFrame (raw : Bytes) : Bytes := [fend, kissCommand] ++ raw.flatMap kissEsc ++ [fend]

/-- The loop of UNKISS over the bytes between the command byte and the closing FEND; `none` is MALFORMED (R260). -/
def unescape : Bytes → Option Bytes
  | [] => some []
  | [d] => if d = fend ∨ d = fesc then none else some [d]
  | d :: e :: rest =>
    if d = fend then none
    else if d = fesc then
      if e = tfend then (unescape rest).map (fend :: ·)
      else if e = tfesc then (unescape rest).map (fesc :: ·)
      else none
    else (unescape (e :: rest)).map (d :: ·)

/-- `UNKISS(k)` (R260). -/
def unkiss (k : Bytes) : Option Bytes :=
  if 3 ≤ k.length ∧ k.head? = some fend ∧ k[1]? = some kissCommand ∧ k.getLast? = some fend then
    unescape (k.drop 2).dropLast
  else none

/-! Meanings. -/

/-- KISS_FEND_OPEN (R251). -/
def execKissFendOpen (s : State) : Res := .next (s.emitKiss [fend])

/-- KISS_CMD_DATA (R252). -/
def execKissCmdData (s : State) : Res := .next (s.emitKiss [kissCommand])

/-- KISS_LIT (R253): "one raw byte b with b ≠ 0xC0 and b ≠ 0xDB"; no other byte is an operand of it (DESIGN CHOICE, log 26). -/
def execKissLit (d : Byte) (s : State) : Res :=
  if kissLiteral d then .next (s.emitKiss [d]) else .refused .literalNeedsEscape

/-- KISS_ESC_FEND (R254). -/
def execKissEscFend (s : State) : Res := .next (s.emitKiss escFend)

/-- KISS_ESC_FESC (R255). -/
def execKissEscFesc (s : State) : Res := .next (s.emitKiss escFesc)

/-- KISS_FEND_CLOSE (R256). -/
def execKissFendClose (s : State) : Res := .next (s.emitKiss [fend])

end Sys2Proof.Machine
end

