-- ==== Sys2Proof/Machine/Control.lean ====
section
/-! DEFINITION. The cycle controller and the host's transactions (44_cycle_control.md). -/

namespace Sys2Proof.Machine

/-! CFG_SET and CFG_READ. -/

/-- A register with a value written: the value stored and the set bit 1 (R281). -/
def Reg.write {α : Type} (_ : Reg α) (v : α) : Reg α := { set := true, value := v }

/-- `cfg` after CFG_SET of register `k` with a value of its width; `none` where the value has another type (R281). -/
def writeCfg (c : ConfigRegs) (k : Byte) (v : CfgValue) : Option ConfigRegs :=
  match k.toNat, v with
  | 0, .str b => some { c with dstCall := c.dstCall.write b }
  | 1, .u8 n => some { c with dstSsid := c.dstSsid.write n }
  | 2, .str b => some { c with srcCall := c.srcCall.write b }
  | 3, .u8 n => some { c with srcSsid := c.srcSsid.write n }
  | 4, .u16 n => some { c with maxPayload := c.maxPayload.write n }
  | 5, .u32 n => some { c with sampleRate := c.sampleRate.write n }
  | _, _ => none

/-- The value CFG_READ finds: `none` for UNSET, and for a register that does not exist (R282). -/
def readCfg (c : ConfigRegs) (k : Byte) : Option CfgValue :=
  match k.toNat with
  | 0 => if c.dstCall.set then some (.str c.dstCall.value) else none
  | 1 => if c.dstSsid.set then some (.u8 c.dstSsid.value) else none
  | 2 => if c.srcCall.set then some (.str c.srcCall.value) else none
  | 3 => if c.srcSsid.set then some (.u8 c.srcSsid.value) else none
  | 4 => if c.maxPayload.set then some (.u16 c.maxPayload.value) else none
  | 5 => if c.sampleRate.set then some (.u32 c.sampleRate.value) else none
  | _ => none

/-- CFG_SET (R281). -/
def execCfgSet (k : Byte) (v : CfgValue) (s : State) : Res :=
  if 6 ≤ k.toNat then .next s.markPv
  else if cfgShapeOk k v then
    match writeCfg s.cfg k v with
    | some c => .next (s.withCfg c)
    | none => .refused .operandType
  else .refused .operandType

/-- CFG_READ (R282). -/
def execCfgRead (k : Byte) (s : State) : Res :=
  if 6 ≤ k.toNat then .next (s.markPv.reply (.cfg k none)) else .next (s.reply (.cfg k (readCfg s.cfg k)))

/-- STATUS_READ (R282). -/
def execStatusRead (s : State) : Res := .next (s.reply (.status (statusOf s)))

/-! Running a cycle. -/

/-- The frames of a serialised stream: one KISS frame per AX.25 frame, in order (R285). -/
def framesOf (lc : ConfigValues) (sb : Bytes) : List Bytes := (ax25 lc sb).map kissFrame

/-- `FRAMES(lcfg, grid)` (R285), with SSTV as R158 and R161 define it. -/
def cycleFrames (P : Params) (lc : ConfigValues) (g : PixelGrid) : List Bytes :=
  framesOf lc (serialStream (sstv P g lc.sampleRate.toNat))

/-- The datapath run of a cycle: the sequencer's walk (R164), the serialised stream, its frames into `FQ`, and the framer's
registers as the last frame leaves them (R37; DEDUCED, logs 14 and 25). -/
def computeFrames (P : Params) (s : State) : State :=
  let walk := seqWalk P s.lcfg.sampleRate.toNat s.grid s.seq
  let sb := serialStream walk.2
  ((((s.withSeq walk.1 walk.2).setCrc (crcAfter s.lcfg sb s.crc)).setChunkOff (BitVec.ofNat 32 sb.length)).clearSpaces).queueFrames
    (framesOf s.lcfg sb)

/-- START's end, after its frames are computed (R283, R291). -/
def beginWrites (s : State) : Res := if s.framesTotal = 0 then .next s.complete else issueWrite s.awaitWrite

/-- START of a grid in IDLE, DONE or ERROR (R283). -/
def startCycle (P : Params) (g : PixelGrid) (s : State) : Res :=
  let s1 := (s.latch g).clearStatus
  match validate s.cfg g with
  | some e => .next (s1.raiseError e.code e.detail)
  | none => beginWrites (computeFrames P s1)

/-- START (R283, R284). -/
def startTxn (P : Params) (g : PixelGrid) (s : State) : Res :=
  if s.ctl = .waitWrite then .next s.markPv else startCycle P g s

/-- START (R283). -/
def execStart (g : PixelGrid) (s : State) : Res := startTxn Config.params g s

/-- SINK_WRITE (R286): the byte string goes to the host, and no register changes (DEDUCED, log 27). -/
def execSinkWrite (b : Bytes) (s : State) : Res := .next (s.sinkWrite b)

/-- WRITE_OK (R287, R289). -/
def execWriteOk (s : State) : Res :=
  if s.ctl = .waitWrite then
    if s.frameIdx + 1 = s.framesTotal then .next s.countWritten.complete else issueWrite s.countWritten
  else .next s.markPv

/-- WRITE_ERR (R288, R289). -/
def execWriteErr (s : State) : Res :=
  if s.ctl = .waitWrite then .next (s.raiseError .transportError (.frame s.frameIdx)) else .next s.markPv

/-- RESET (R292). -/
def execReset (s : State) : Res := .next s.resetKeeping

end Sys2Proof.Machine
end

