-- ==== Sys2Proof/Machine/Dispatch.lean ====
section
/-! DEFINITION. One arm per instruction. -/

namespace Sys2Proof.Machine

def exec (i : Instr) (s : State) : Host.Outcome State Fault Refusal :=
  match i with
  -- SEGDESC
  | .leader => Sys2Proof.Machine.execLeader s
  | .brk => Sys2Proof.Machine.execBreak s
  | .visStart => Sys2Proof.Machine.execVisStart s
  | .visBit bit => Sys2Proof.Machine.execVisBit bit s
  | .visParity bit => Sys2Proof.Machine.execVisParity bit s
  | .visStop => Sys2Proof.Machine.execVisStop s
  | .sync => Sys2Proof.Machine.execSync s
  | .porch => Sys2Proof.Machine.execPorch s
  | .pixG v => Sys2Proof.Machine.execPixG v s
  | .pixB v => Sys2Proof.Machine.execPixB v s
  | .pixR v => Sys2Proof.Machine.execPixR v s
  | .separator => Sys2Proof.Machine.execSeparator s
  -- SAMPLE
  | .sampleSerialize smp => Sys2Proof.Machine.execSampleSerialize smp s
  -- AX25ADDR and AX25FRAME
  | .addrChar ch => Sys2Proof.Machine.execAddrChar ch s
  | .addrSsidMore ssid => Sys2Proof.Machine.execAddrSsidMore ssid s
  | .addrSsidLast ssid => Sys2Proof.Machine.execAddrSsidLast ssid s
  | .ctrlUi => Sys2Proof.Machine.execCtrlUi s
  | .pidNol3 => Sys2Proof.Machine.execPidNol3 s
  | .infoByte d => Sys2Proof.Machine.execInfoByte d s
  | .fcsLo => Sys2Proof.Machine.execFcsLo s
  | .fcsHi => Sys2Proof.Machine.execFcsHi s
  -- KISSFRAME
  | .kissFendOpen => Sys2Proof.Machine.execKissFendOpen s
  | .kissCmdData => Sys2Proof.Machine.execKissCmdData s
  | .kissLit d => Sys2Proof.Machine.execKissLit d s
  | .kissEscFend => Sys2Proof.Machine.execKissEscFend s
  | .kissEscFesc => Sys2Proof.Machine.execKissEscFesc s
  | .kissFendClose => Sys2Proof.Machine.execKissFendClose s
  -- HOSTTXN
  | .reset => Sys2Proof.Machine.execReset s
  | .start g => Sys2Proof.Machine.execStart g s
  | .cfgSet k v => Sys2Proof.Machine.execCfgSet k v s
  | .cfgRead k => Sys2Proof.Machine.execCfgRead k s
  | .statusRead => Sys2Proof.Machine.execStatusRead s
  | .writeOk => Sys2Proof.Machine.execWriteOk s
  | .writeErr => Sys2Proof.Machine.execWriteErr s
  | .sinkWrite b => Sys2Proof.Machine.execSinkWrite b s
  -- internal
  | .toneSample => Sys2Proof.Machine.execToneSample s
  | .seqStep => Sys2Proof.Machine.execSeqStep s
  | .crcUpdate d => Sys2Proof.Machine.execCrcUpdate d s

end Sys2Proof.Machine
end

