-- ==== Sys2Proof/Machine/Step.lean ====
section
/-! DEFINITION. One step: the block takes one item, whole (44_cycle_control.md R280; DEDUCED, log 2). -/

namespace Sys2Proof.Machine

/-- One step. With nothing to take, the block "takes no step of its own" and keeps all its state (R280, R298;
60_exceptions.md R347; 70_reset_and_hazards.md R382; DESIGN CHOICE, log 3). -/
def step (s : State) : Host.Outcome State Fault Refusal :=
  match fetchNext s with
  | none => .next s
  | some (it, rest) =>
    match decode it with
    | .ok i => exec i rest
    | .reject r => onReject r rest

/-- The state with a table word placed where the next step takes it (DESIGN CHOICE, log 4). -/
def State.withFetchWord (s : State) (nbits w : Nat) : State := placeWord s nbits w

end Sys2Proof.Machine
end

