-- ==== Sys2Proof/Safety.lean ====
section
/-! DEFINITION. The terms claims are stated in: the faulted state, the end of a run, the observation, the invariant, and the
reference sine (10_state.md R30 to R35; 41_sstv_tone_sequencer.md R162; 44_cycle_control.md R290 to R297). -/

namespace Sys2Proof.Machine

/-- "A model treats a state with PV = 1 as faulted: no claim about the run holds" (R35). -/
def State.faulted (s : State) : Prop := s.pv = true

/-- The end of a run (44_cycle_control.md R295): no write outstanding, and PV = 0. -/
def State.runEnded (s : State) : Prop := s.ctl ≠ .waitWrite ∧ s.pv = false

/-- What a run shows (44_cycle_control.md R294): the SINK_WRITE sequence and the values the reads returned. -/
structure Observation where
  writes : List Bytes
  reads : List Reply
  deriving DecidableEq, Repr

/-- The observation of the run that led to a state. -/
def State.observe (s : State) : Observation := { writes := s.sink, reads := s.replies }

/-! The invariant. -/

/-- `ERR_DETAIL` has the form that R330's table gives the error code. -/
def errMatches : ErrCode → ErrDetail → Prop
  | .none, .none => True
  | .invalidDimensions, .dim _ _ _ => True
  | .invalidCallsign, .call _ _ => True
  | .transportError, .frame _ => True
  | .invalidConfiguration, .cfg _ _ => True
  | _, _ => False

/-- What each value of `STATE` says of the status and the queue (R29, R32 to R34; 44_cycle_control.md R286, R290). -/
def State.statusConsistent (s : State) : Prop :=
  match s.ctl with
  | .idle => s.errCode = .none ∧ s.fq = [] ∧ s.framesTotal = 0
  | .waitWrite => s.errCode = .none ∧ s.framesTotal.toNat = s.fq.length ∧ s.frameIdx.toNat < s.fq.length
  | .done => s.errCode = .none ∧ s.fq = [] ∧ s.framesWritten = s.framesTotal
  | .error => s.errCode ≠ .none ∧ s.fq = []

/-- R32's invariant: `FRAMES_WRITTEN ≤ FRAMES_TOTAL`, and `FRAMES_WRITTEN = FRAME_IDX`. -/
def State.countersConsistent (s : State) : Prop :=
  s.framesWritten.toNat ≤ s.framesTotal.toNat ∧ s.framesWritten = s.frameIdx

/-- `PHASE` and `INC` are `PHASE_BITS` bits wide (R36). -/
def State.phaseFits (s : State) : Prop :=
  s.seq.phase.toNat < 2 ^ Config.params.phaseBits ∧ s.seq.inc.toNat < 2 ^ Config.params.phaseBits

/-- A callsign register holds 0 to 255 bytes (R21, R22). -/
def State.callsignsFit (s : State) : Prop :=
  s.cfg.dstCall.value.length ≤ 255 ∧ s.cfg.srcCall.value.length ≤ 255

/-- The invariant of the machine. -/
structure State.Inv (s : State) : Prop where
  status : s.statusConsistent
  counters : s.countersConsistent
  detail : errMatches s.errCode s.errDetail
  phase : s.phaseFits
  callsigns : s.callsignsFit

/-! The reference sine (R162), a premise some claims name and the machine never uses. -/

/-- Rounding half away from zero, as a relation between a real and an integer. -/
def RoundsHalfAway (x : ℝ) (n : Int) : Prop := (n.natAbs : Int) = ⌊|x| + 1 / 2⌋ ∧ (0 ≤ x → 0 ≤ n) ∧ (x ≤ 0 → n ≤ 0)

end Sys2Proof.Machine

namespace Sys2Proof

/-- `SINE = SINE_ref`: `round_half_away_from_zero(AMPLITUDE × sin(2π × p / 2^PHASE_BITS))` (R162). -/
def Params.IsSineRef (P : Params) : Prop :=
  ∀ p : Nat, p < 2 ^ P.phaseBits →
    Machine.RoundsHalfAway ((P.amplitude : ℝ) * Real.sin (2 * Real.pi * (p : ℝ) / 2 ^ P.phaseBits)) (P.sine p)

end Sys2Proof
end

