-- ==== Sys2Proof/Certificates/Slice0/Obligations.lean ====
section
/-! DEFINITION. The statements for the provers. Each docstring names the rules of spec/ it formalises. -/

open Sys2Proof Sys2Proof.Machine

namespace Sys2Proof.Claims

/-- `2^PHASE_BITS` of the machine. -/
abbrev phaseMod : Nat := 2 ^ Config.params.phaseBits

/-- The grid and the rate on which the sequencer runs (41_sstv_tone_sequencer.md R141, 60_exceptions.md R333, R334). -/
def Checked (s : State) : Prop :=
  s.grid.w = 320 ∧ s.grid.h = 256 ∧ s.grid.px.length = s.grid.w * s.grid.h ∧ 1 ≤ s.lcfg.sampleRate.toNat ∧
    s.lcfg.sampleRate.toNat ≤ 1000000

/-- The instructions of the sequencer that compute samples: the twelve segments, TONE_SAMPLE and SEQ_STEP. -/
def computesSamples : Instr → Bool
  | .leader | .brk | .visStart | .visBit _ | .visParity _ | .visStop | .sync | .porch | .pixG _ | .pixB _ | .pixR _
  | .separator | .toneSample | .seqStep => true
  | _ => false

/-- Executing `i` on a checked grid and rate, in any state whose phase fits its register, is one round of
41_sstv_tone_sequencer.md R164 for a tone of `a / b` Hz and `d` ns: the next state is exactly this one, so everything but the
sequencer registers and the sample stream is unchanged. -/
def RunsTone (i : Instr) (a b d : Nat) : Prop :=
  ∀ s : State, Checked s → s.seq.phase.toNat < phaseMod →
    let fs := s.lcfg.sampleRate.toNat
    let segEnd := BitVec.ofNat 32 (sampleAt fs (s.seq.tNs.toNat + d))
    let n := segEnd.toNat - s.seq.sampleIdx.toNat
    let inc := phaseInc Config.params fs { num := a, den := b, dur := d }
    exec i s = .next { s with
      seq :=
        { segIdx := s.seq.segIdx + 1
          sampleIdx := s.seq.sampleIdx + BitVec.ofNat 32 n
          segEnd := segEnd
          phase := BitVec.ofNat 32 ((s.seq.phase.toNat + n * inc) % phaseMod)
          inc := BitVec.ofNat 32 inc
          tNs := BitVec.ofNat 37 (s.seq.tNs.toNat + d) }
      samples := s.samples
        ++ (List.range n).map fun j => sineSample Config.params ((s.seq.phase.toNat + j * inc) % phaseMod) }

/-- Executing `i` appends one byte with value `v` to the frame space and changes nothing else. -/
def EmitsFrameByte (i : Instr) (s : State) (v : Nat) : Prop :=
  exec i s = .next { s with frame := s.frame ++ [BitVec.ofNat 8 v] }

/-- Executing `i` appends bytes to the KISS output and changes nothing else. -/
def EmitsKiss (i : Instr) (s : State) (out : Bytes) : Prop := exec i s = .next { s with kiss := s.kiss ++ out }

/-- The `set` bit of register `k` (10_state.md R21). -/
def setBit (c : ConfigRegs) : Nat → Bool
  | 0 => c.dstCall.set
  | 1 => c.dstSsid.set
  | 2 => c.srcCall.set
  | 3 => c.srcSsid.set
  | 4 => c.maxPayload.set
  | 5 => c.sampleRate.set
  | _ => false

/-- The transactions a host may send while a cycle runs, besides its answers (44_cycle_control.md R280, R296). -/
def quiet : Instr → Bool
  | .cfgSet k v => decide (k.toNat < 6) && cfgShapeOk k v
  | .cfgRead k => decide (k.toNat < 6)
  | .statusRead => true
  | _ => false

/-- A host script whose only answers are WRITE_OK, with CFG_SET, CFG_READ and STATUS_READ anywhere among them. -/
def AcceptingScript (l : List Instr) : Prop := ∀ i ∈ l, i = .writeOk ∨ quiet i = true

/-- The transactions of a script, as the host sends them. -/
def hostItems (l : List Instr) : List Item := l.filterMap (encode 0#16)

end Sys2Proof.Claims

open Sys2Proof.Claims

/-! ## Reset and the invariant -/

/-- R381: the state at power-on, and that RESET keeps PV. -/
def Obligations.PowerOnState : Prop :=
  (∀ k < 6, setBit State.reset.cfg k = false) ∧ State.reset.ctl = .idle ∧ State.reset.errCode = .none ∧
    State.reset.errDetail = .none ∧ State.reset.framesTotal = 0 ∧ State.reset.framesWritten = 0 ∧ State.reset.fq = [] ∧
    State.reset.frameIdx = 0 ∧ State.reset.pv = false ∧ State.reset.outstanding = none ∧
    ∀ s : State, ∃ t, exec .reset s = .next t ∧ t.pv = s.pv

/-- R292 with R381: the RESET transaction. The last two clauses, that RESET keeps the lists of what was written to the sink and of
what reads returned, are no rule of the spec but the model's choice (log 15). -/
def Obligations.ResetTransactionKeepsOnlyPv : Prop :=
  ∀ s : State, ∃ t, exec .reset s = .next t ∧ (∀ k < 6, setBit t.cfg k = false) ∧ t.ctl = .idle ∧ t.errCode = .none ∧
    t.errDetail = .none ∧ t.framesTotal = 0 ∧ t.framesWritten = 0 ∧ t.fq = [] ∧ t.frameIdx = 0 ∧ t.pv = s.pv ∧
    t.outstanding = none ∧ t.sink = s.sink ∧ t.replies = s.replies

/-- The invariant holds at power-on, with the values that logs 9 and 12 choose for PHASE, INC and the callsigns. -/
def Obligations.InvariantHoldsAtReset : Prop := State.reset.Inv

/-- Every step keeps the invariant: the status agrees with STATE (R29, R30, R33, R286, R290), R32's counters, the widths of
PHASE and INC (R36) and the length of the callsign registers (R22). -/
def Obligations.EveryStepKeepsTheInvariant : Prop := ∀ s t : State, s.Inv → step s = .next t → t.Inv

/-- Under the invariant every well-formed instruction completes: no fault, no refusal. -/
def Obligations.InvariantStatesNeverStop : Prop :=
  ∀ (s : State) (i : Instr), s.Inv → i.wellFormed = true → ∃ t, exec i s = .next t

/-! ## Encoding -/

/-- Decoding an encoded well-formed instruction gives it back, for every instruction with an encoding and every FCS. -/
def Obligations.DecodeOfEncodeIsTheInstruction : Prop :=
  ∀ (fcs : BitVec 16) (i : Instr) (it : Item), i.wellFormed = true → encode fcs i = some it → decode it = .ok i

/-- Each item has one meaning: it decodes only to a well-formed instruction, and encoding that gives the item back. FCS_LO and
FCS_HI are left out of the second part, since their byte is the frame's FCS, not an operand (log 17). -/
def Obligations.EncodeOfDecodeIsTheItem : Prop :=
  ∀ (fcs : BitVec 16) (it : Item) (i : Instr), decode it = .ok i →
    i.wellFormed = true ∧ (i ≠ .fcsLo → i ≠ .fcsHi → encode fcs i = some it)

/-- A few words written out from the encodings of 30_encoding.md. A bare table word can be a word of several rows (0x6E is also one of
ADDR_CHAR, INFO_BYTE and KISS_LIT, 0x04 also one of ADDR_CHAR, 0xDBDD also a sample): which row it reads as is the model's choice
(log 6), and that the first byte of two is bits 15:8 is its reading of the table (log 7). -/
def Obligations.SampleWordsDecode : Prop :=
  decodeTableWord 16 0b0011000000000001 = some (.visBit true) ∧ decodeTableWord 16 0b1010000000010001 = some (.pixR 17) ∧
    decodeTableWord 8 0b01101110 = some (.addrSsidMore 7) ∧ decodeTableWord 8 0b01111111 = some (.addrSsidLast 15) ∧
    decodeTableWord 16 0b1101101111011101 = some .kissEscFesc ∧ decodeTableWord 8 0x04 = some .statusRead

/-- R93: exactly the reserved and malformed descriptors are rejected, the step that takes one refuses it, and the schedule holds
none. `first` is bits 15:8 of the descriptor, `second` bits 7:0. -/
def Obligations.MalformedDescriptorsAreRefused : Prop :=
  (∀ first second : Byte,
    decode (.unit .segment [first, second]) = .reject .malformedDescriptor ↔
      (12 ≤ first.toNat / 16 ∨ first.toNat % 16 ≠ 0 ∨
        (second.toNat ≠ 0 ∧ first.toNat / 16 ∈ [0, 1, 2, 5, 6, 7, 11]) ∨
        (2 ≤ second.toNat ∧ first.toNat / 16 ∈ [3, 4]))) ∧
  (∀ (s : State) (it : Item) (rest : List Item), s.inbox = it :: rest → decode it = .reject .malformedDescriptor →
    step s = .refused .malformedDescriptor) ∧
  (∀ (P : Params) (g : PixelGrid), ∀ sg ∈ schedule P g, decode (segItem sg) = .ok (Instr.ofSegment sg))

/-! ## The step -/

/-- A step on an item that decodes is `exec` of the decoded instruction in the state without the item. The list of waiting items
is the model's (log 2, log 4). -/
def Obligations.StepRunsTheDecodedInstruction : Prop :=
  ∀ (s : State) (it : Item) (rest : List Item) (i : Instr), s.inbox = it :: rest → decode it = .ok i →
    step s = exec i { s with inbox := rest }

/-- With no transaction to take the block keeps all its state (R298, R347, R382). That the model's step then answers the same state
is log 3, a design choice. -/
def Obligations.BlockWaitsForTheHost : Prop := ∀ s : State, s.inbox = [] → step s = .next s

/-- R35: once set, PV stays set, whatever the step. -/
def Obligations.ProtocolViolationMarkIsSticky : Prop :=
  ∀ s t : State, step s = .next t → s.pv = true → t.pv = true

/-- R340 with R284, R289, R293: each cause sets PV and changes nothing else; CFG_READ also returns UNSET (R282). -/
def Obligations.ProtocolViolationsSetPvOnly : Prop :=
  (∀ (s : State) (g : PixelGrid), s.ctl = .waitWrite → exec (.start g) s = .next { s with pv := true }) ∧
  (∀ s : State, s.ctl ≠ .waitWrite → exec .writeOk s = .next { s with pv := true } ∧
    exec .writeErr s = .next { s with pv := true }) ∧
  (∀ (s : State) (k : Byte) (v : CfgValue), 6 ≤ k.toNat → exec (.cfgSet k v) s = .next { s with pv := true } ∧
    exec (.cfgRead k) s = .next { s with pv := true, replies := s.replies ++ [.cfg k none] }) ∧
  (∀ (s : State) (code : Byte) (arg : HostArg) (rest : List Item),
    (0x07 ≤ code.toNat ∧ code.toNat ≤ 0x7F) ∨ 0x81 ≤ code.toNat → s.inbox = .host code arg :: rest →
    step s = .next { s with inbox := rest, pv := true })

/-- R25: the configuration registers are written by CFG_SET and RESET alone, and RESET alone clears one. -/
def Obligations.ConfigurationKeptByAllButCfgSetAndReset : Prop :=
  ∀ (i : Instr) (s t : State), exec i s = .next t → i ≠ .reset →
    (∀ k < 6, setBit s.cfg k = true → setBit t.cfg k = true) ∧ ((∀ k v, i ≠ .cfgSet k v) → t.cfg = s.cfg)

/-- R28's column "written by", with R33, R34, R26, R64: only START, WRITE_OK, WRITE_ERR and RESET write the status, the queue and the position; only
START and RESET write the latched copies. -/
def Obligations.StatusWrittenByControllerOnly : Prop :=
  ∀ (i : Instr) (s t : State), exec i s = .next t → i ≠ .reset → (∀ g, i ≠ .start g) →
    (t.lcfg = s.lcfg ∧ t.grid = s.grid) ∧
    (i ≠ .writeOk → i ≠ .writeErr → t.ctl = s.ctl ∧ t.errCode = s.errCode ∧ t.errDetail = s.errDetail ∧
      t.framesTotal = s.framesTotal ∧ t.framesWritten = s.framesWritten ∧ t.fq = s.fq ∧ t.frameIdx = s.frameIdx)

/-- R70, R73: a step never takes back a write, and hands over at most one. -/
def Obligations.StepHandsOverAtMostOneWrite : Prop :=
  ∀ s t : State, step s = .next t → t.sink = s.sink ∨ ∃ b, t.sink = s.sink ++ [b]

/-! ## The tone sequencer -/

/-- R143, R144, R145, R148, R150, R151, R155: the segments of one fixed tone. -/
def Obligations.FixedToneSegments : Prop :=
  RunsTone .leader 1900 1 300000000 ∧ RunsTone .brk 1200 1 10000000 ∧ RunsTone .visStart 1200 1 30000000 ∧
    RunsTone .visStop 1200 1 30000000 ∧ RunsTone .sync 1200 1 4862000 ∧ RunsTone .porch 1500 1 572000 ∧
    RunsTone .separator 1500 1 572000

/-- R146, R147: 1100 Hz for 0 and 1300 Hz for 1, 30 ms. -/
def Obligations.VisCellSegments : Prop :=
  ∀ bit : Bool, RunsTone (.visBit bit) (if bit then 1300 else 1100) 1 30000000 ∧
    RunsTone (.visParity bit) (if bit then 1300 else 1100) 1 30000000

/-- R96, R152 to R154: `FPIX(v)`, 457 600 ns. -/
def Obligations.PixelSegments : Prop :=
  ∀ v : Byte, RunsTone (.pixG v) (382500 + 800 * v.toNat) 255 457600 ∧
    RunsTone (.pixB v) (382500 + 800 * v.toNat) 255 457600 ∧ RunsTone (.pixR v) (382500 + 800 * v.toNat) 255 457600

/-- R161: on a checked grid and rate (R141) one sample is output, then the phase advances; SAMPLE_IDX, "index n of the next sample" (R36), moves on,
which is the model's reading of R36 and R164 (log 29). -/
def Obligations.ToneSampleOutputsThenAdvances : Prop :=
  ∀ s : State, Checked s → exec .toneSample s = .next { s with
    seq := { s.seq with
      phase := BitVec.ofNat 32 ((s.seq.phase.toNat + s.seq.inc.toNat) % phaseMod)
      sampleIdx := s.seq.sampleIdx + 1 }
    samples := s.samples ++ [sineSample Config.params s.seq.phase.toNat] }

/-- R164: on a checked grid and a legal rate the walk leaves exactly the stream that R158 and R161 define, SAMPLE_IDX = N (R159),
every segment passed, and everything outside the sequencer unchanged. -/
def Obligations.SequencerWalkEmitsTheDefinedStream : Prop :=
  ∀ s : State, Checked s →
    ∃ t, exec .seqStep s = .next t ∧ t.samples = sstv Config.params s.grid s.lcfg.sampleRate.toNat ∧
      t.seq.sampleIdx.toNat = sampleCount Config.params s.lcfg.sampleRate.toNat ∧
      t.seq.segIdx.toNat = (schedule Config.params s.grid).length ∧ t.seq.tNs.toNat = totalNs Config.params ∧
      t.seq.phase.toNat = phaseAt Config.params
        (sampleIncs Config.params s.lcfg.sampleRate.toNat 0 (schedule Config.params s.grid)) t.samples.length ∧
      t = { s with seq := t.seq, samples := t.samples }

/-- R141: on any other grid or rate no instruction of the unit computes a sample. That nothing else changes is the model's reading
(log 23). -/
def Obligations.SequencerNeedsCheckedGridAndRate : Prop :=
  ∀ (i : Instr) (s : State), computesSamples i = true →
    s.grid.w ≠ 320 ∨ s.grid.h ≠ 256 ∨ s.grid.px.length ≠ s.grid.w * s.grid.h ∨ s.lcfg.sampleRate.toNat = 0 ∨
      1000000 < s.lcfg.sampleRate.toNat →
    exec i s = .next s

/-- R142, R95: the schedule has NSEG segments and lasts T_TOTAL, whatever the pixels. -/
def Obligations.ScheduleLengthAndDuration : Prop :=
  ∀ (P : Params) (g : PixelGrid),
    (schedule P g).length = (if P.visDataBits = 8 then 247054 else 247053) ∧
    ((schedule P g).map fun sg => (segTone sg).dur).sum = (if P.visDataBits = 8 then 115230176000 else 115200176000)

/-- R149 with the bits of R146 and R147: the VIS header for both values of VIS_DATA_BITS. -/
def Obligations.VisHeaderSegments : Prop :=
  ∀ P : Params, visHeader P =
    [.leader, .brk, .leader, .visStart, .visBit false, .visBit false, .visBit true, .visBit true, .visBit false,
      .visBit true, .visBit false] ++ (if P.visDataBits = 8 then [.visBit false] else []) ++ [.visParity true, .visStop]

/-- R156: scan line y, in terms of the pixels of the grid, row-major. -/
def Obligations.ScanLineSegments : Prop :=
  ∀ (g : PixelGrid) (y : Nat), g.px.length = 320 * 256 → y < 256 →
    scanLine g y = [.sync, .porch] ++ ((g.px.drop (y * 320)).take 320).map (fun p => Segment.pixG p.g)
      ++ [.separator] ++ ((g.px.drop (y * 320)).take 320).map (fun p => Segment.pixB p.b)
      ++ [.separator] ++ ((g.px.drop (y * 320)).take 320).map (fun p => Segment.pixR p.r) ++ [.separator]

/-- R158: sample n belongs to the segment [t, t + d) exactly where its instant n × 10^9 / fs lies in it. -/
def Obligations.SegmentHoldsSamplesOfItsInterval : Prop :=
  ∀ fs t d n : Nat, (sampleAt fs t ≤ n ∧ n < sampleAt fs (t + d)) ↔
    (t * fs ≤ n * 1000000000 ∧ n * 1000000000 < (t + d) * fs)

/-- R159: the length of the stream, for every grid, and R159's table. -/
def Obligations.StreamLengthIsFixed : Prop :=
  (∀ (P : Params) (g : PixelGrid) (fs : Nat), (sstv P g fs).length = sampleCount P fs) ∧
  (∀ P : Params, P.visDataBits = 8 → [8000, 11025, 22050, 44100, 48000, 1000000].map (sampleCount P)
    = [921842, 1270413, 2540826, 5081651, 5531049, 115230176]) ∧
  (∀ P : Params, P.visDataBits = 7 → [8000, 11025, 22050, 44100, 48000, 1000000].map (sampleCount P)
    = [921602, 1270082, 2540164, 5080328, 5529609, 115200176])

/-- R160: the increment is `f × 2^PHASE_BITS / fs` rounded to the nearest integer, halves up, mod `2^PHASE_BITS`. -/
def Obligations.IncrementIsTheRoundedRatio : Prop :=
  (∀ (P : Params) (fs : Nat) (t : Tone), 0 < fs → 0 < t.den → ∃ q : Nat,
    2 * (t.num * 2 ^ P.phaseBits) < 2 * (q * (t.den * fs)) + t.den * fs ∧
    2 * (q * (t.den * fs)) ≤ 2 * (t.num * 2 ^ P.phaseBits) + t.den * fs ∧
    phaseInc P fs t = q % 2 ^ P.phaseBits) ∧
  (∀ P : Params, P.phaseBits = 32 → [1100, 1200, 1300, 1500, 1900, 2300].map
    (fun f => phaseInc P 44100 { num := f, den := 1, dur := 0 })
    = [107130704, 116869858, 126609013, 146087323, 185043942, 224000562])

/-- R162: the range of SINE, and that a sample holds its value (R7, R98). -/
def Obligations.SamplesHoldTheSineInRange : Prop :=
  ∀ (P : Params) (phase : Nat), -(P.amplitude : Int) ≤ P.sine phase ∧ P.sine phase ≤ P.amplitude ∧
    (sineSample P phase).toInt = P.sine phase

/-- R162's example: the corner values of SINE_ref. -/
def Obligations.ReferenceSineCorners : Prop :=
  ∀ P : Params, P.phaseBits = 32 → P.amplitude = 32767 → P.IsSineRef →
    P.sine 0 = 0 ∧ P.sine (2 ^ 30) = 32767 ∧ P.sine (2 ^ 31) = 0 ∧ P.sine (3 * 2 ^ 30) = -32767

/-- R165: on the all-zero grid every segment of a line after SYNC has the increment of 1500 Hz. -/
def Obligations.BlackGridIsConstantTone : Prop :=
  ∀ (P : Params) (fs : Nat) (g : PixelGrid) (y : Nat), 0 < fs → y < 256 → g.px = List.replicate (320 * 256) ⟨0, 0, 0⟩ →
    ∀ sg ∈ (scanLine g y).tail, phaseInc P fs (segTone sg) = phaseInc P fs { num := 1500, den := 1, dur := 0 }

/-- R98, R167: SAMPLE_SERIALIZE, low byte first. -/
def Obligations.SampleSerializeIsLittleEndian : Prop :=
  ∀ (smp : Sample) (s : State), exec (.sampleSerialize smp) s = .next { s with
    sb := s.sb ++ [BitVec.ofNat 8 (smp.toNat % 256), BitVec.ofNat 8 (smp.toNat / 256)] }

/-! ## The framer -/

/-- R202 to R204. -/
def Obligations.AddressBytes : Prop :=
  (∀ (ch : BitVec 7) (s : State), EmitsFrameByte (.addrChar ch) s (2 * ch.toNat)) ∧
  (∀ (ssid : BitVec 4) (s : State), EmitsFrameByte (.addrSsidMore ssid) s (0x60 + 2 * ssid.toNat) ∧
    EmitsFrameByte (.addrSsidLast ssid) s (0x61 + 2 * ssid.toNat))

/-- R206, R207: the two constant bytes. -/
def Obligations.ControlAndPidBytes : Prop := ∀ s : State, EmitsFrameByte .ctrlUi s 0x03 ∧ EmitsFrameByte .pidNol3 s 0xF0

/-- R210, R212 to R214. That CHUNK_OFF moves past the information byte is the model's reading of R37 (log 25), and that FCS_LO and
FCS_HI take the FCS from the register CRC is its reading of R212 (log 17). -/
def Obligations.InformationAndFcsBytes : Prop :=
  ∀ s : State, (∀ d : Byte, exec (.infoByte d) s = .next { s with frame := s.frame ++ [d], chunkOff := s.chunkOff + 1 }) ∧
    EmitsFrameByte .fcsLo s ((65535 - s.crc.toNat) % 256) ∧ EmitsFrameByte .fcsHi s ((65535 - s.crc.toNat) / 256)

/-- R211, and the check value of R212. The spec marks both as general knowledge. -/
def Obligations.CrcUpdateIsEightReflectedShifts : Prop :=
  (∀ (d : Byte) (s : State), exec (.crcUpdate d) s = .next { s with
    crc := (fun c : BitVec 16 => if c.getLsbD 0 then (c >>> 1) ^^^ 0x8408#16 else c >>> 1)^[8] (s.crc ^^^ d.setWidth 16) }) ∧
  fcsOf (crcOver [0x31, 0x32, 0x33, 0x34, 0x35, 0x36, 0x37, 0x38, 0x39]) = 0x906E

/-- R201, R205: character i of the field is the callsign's, or a space, shifted left by 1. -/
def Obligations.AddressFieldIsPaddedAndShifted : Prop :=
  ∀ c : Bytes, c.length ≤ 6 → (∀ d ∈ c, d.toNat < 128) →
    callField c = (List.range 6).map fun i => BitVec.ofNat 8 (2 * (c.getD i 0x20#8).toNat)

/-- R101, R208, R215: the layout of every frame, each byte at its offset. -/
def Obligations.FrameLayout : Prop :=
  ∀ (lc : ConfigValues) (sb f : Bytes), lc.dstCall.length ≤ 6 → lc.srcCall.length ≤ 6 → f ∈ ax25 lc sb →
    ∃ c ∈ chunks lc.maxPayload.toNat sb, f.length = 18 + c.length ∧
      f.take 7 = callField lc.dstCall ++ [0x60#8 ||| (lc.dstSsid <<< 1)] ∧
      (f.drop 7).take 7 = callField lc.srcCall ++ [0x60#8 ||| (lc.srcSsid <<< 1) ||| 1#8] ∧
      f[14]? = some 0x03#8 ∧ f[15]? = some 0xF0#8 ∧ (f.drop 16).take c.length = c ∧
      f[16 + c.length]? = some (BitVec.ofNat 8 ((fcsOf (crcOver (f.take (16 + c.length)))).toNat % 256)) ∧
      f[17 + c.length]? = some (BitVec.ofNat 8 ((fcsOf (crcOver (f.take (16 + c.length)))).toNat / 256))

/-- R209: the cut of the stream into chunks. -/
def Obligations.ChunksCutTheStream : Prop :=
  ∀ (m : Nat) (sb : Bytes), 1 ≤ m →
    (sb.length ≤ (chunks m sb).length * m ∧ ((chunks m sb).length - 1) * m ≤ sb.length ∧ ((chunks m sb).length = 0 ↔ sb = [])) ∧
    (∀ i, i + 1 < (chunks m sb).length → ((chunks m sb).getD i []).length = m) ∧
    (∀ c ∈ chunks m sb, 1 ≤ c.length ∧ c.length ≤ m) ∧
    (∀ i < (chunks m sb).length, (chunks m sb)[i]? = some ((sb.take ((i + 1) * m)).drop (i * m)))

/-- R216: no byte of the stream is lost, repeated or moved. -/
def Obligations.FramesLoseNothing : Prop :=
  ∀ (lc : ConfigValues) (sb : Bytes), 1 ≤ lc.maxPayload.toNat → lc.dstCall.length ≤ 6 → lc.srcCall.length ≤ 6 →
    ((ax25 lc sb).map fun f => (f.take (f.length - 2)).drop 16).flatten = sb

/-- R217: boundary cases of the cut, and that a stream is never empty within a cycle. -/
def Obligations.ChunkBoundaryCases : Prop :=
  (∀ (lc : ConfigValues) (sb : Bytes), sb.length = lc.maxPayload.toNat → sb ≠ [] →
    ax25 lc sb = [ax25Frame (header lc) sb]) ∧
  (∀ (lc : ConfigValues) (sb : Bytes) (d : Byte), sb.length = lc.maxPayload.toNat → sb ≠ [] →
    ax25 lc (sb ++ [d]) = [ax25Frame (header lc) sb, ax25Frame (header lc) [d]]) ∧
  (∀ lc : ConfigValues, ax25 lc [] = []) ∧
  (∀ (P : Params) (g : PixelGrid) (fs : Nat), 1 ≤ fs → sstv P g fs ≠ [])

/-- R219: the residue over a whole frame, its two FCS bytes included. The spec marks it as general knowledge and derived. -/
def Obligations.FrameResidue : Prop :=
  ∀ (lc : ConfigValues) (sb f : Bytes), f ∈ ax25 lc sb → crcOver f = 0xF0B8#16

/-- R34, R215: the number of frames of a legal configuration, and R215's example. -/
def Obligations.FrameCount : Prop :=
  ∀ (P : Params) (lc : ConfigValues) (g : PixelGrid), 1 ≤ lc.maxPayload.toNat → 1 ≤ lc.sampleRate.toNat →
    lc.sampleRate.toNat ≤ 1000000 →
    2 * sampleCount P lc.sampleRate.toNat ≤ (cycleFrames P lc g).length * lc.maxPayload.toNat ∧
    ((cycleFrames P lc g).length - 1) * lc.maxPayload.toNat < 2 * sampleCount P lc.sampleRate.toNat ∧
    (cycleFrames P lc g).length ≤ 230460352 ∧
    (P.visDataBits = 8 → lc.sampleRate = 44100 → lc.maxPayload = 256 → (cycleFrames P lc g).length = 39701)

/-! ## The KISS encoder -/

/-- R251 to R256: the tokens. -/
def Obligations.KissTokens : Prop :=
  ∀ s : State, EmitsKiss .kissFendOpen s [0xC0] ∧ EmitsKiss .kissCmdData s [0x00] ∧ EmitsKiss .kissEscFend s [0xDB, 0xDC] ∧
    EmitsKiss .kissEscFesc s [0xDB, 0xDD] ∧ EmitsKiss .kissFendClose s [0xC0] ∧
    (∀ d : Byte, d ≠ 0xC0 → d ≠ 0xDB → EmitsKiss (.kissLit d) s [d])

/-- R253 and R281 say which values are no operand of KISS_LIT and of CFG_SET; that the model refuses them is log 26. -/
def Obligations.ValuesThatAreNoOperandsAreRefused : Prop :=
  ∀ s : State, (∀ d : Byte, d = 0xC0 ∨ d = 0xDB → exec (.kissLit d) s = .refused .literalNeedsEscape) ∧
    (∀ (k : Byte) (v : CfgValue), k.toNat < 6 → cfgShapeOk k v = false → exec (.cfgSet k v) s = .refused .operandType)

/-- R258: exactly two bytes are 0xC0, the first and the last. -/
def Obligations.KissFramesAreDelimited : Prop :=
  ∀ raw : Bytes, (kissFrame raw).count 0xC0#8 = 2 ∧ (kissFrame raw).head? = some 0xC0#8 ∧
    (kissFrame raw).getLast? = some 0xC0#8 ∧ 0xC0#8 ∉ (kissFrame raw).tail.dropLast

/-- R259: the length of a KISS frame, and the bounds on those of a legal configuration. -/
def Obligations.KissFrameLength : Prop :=
  (∀ raw : Bytes, (kissFrame raw).length = 3 + raw.length + raw.countP (fun d => d == 0xC0#8 || d == 0xDB#8)) ∧
  (∀ (lc : ConfigValues) (sb f : Bytes), 1 ≤ lc.maxPayload.toNat → callCheck lc.dstCall lc.dstSsid = none →
    callCheck lc.srcCall lc.srcSsid = none → f ∈ framesOf lc sb →
    22 ≤ f.length ∧ f.length ≤ 23 + 2 * lc.maxPayload.toNat)

/-- R261: the round trip, and that the encoder is not idempotent. -/
def Obligations.KissRoundTrip : Prop :=
  ∀ raw : Bytes, unkiss (kissFrame raw) = some raw ∧ kissFrame (kissFrame raw) ≠ kissFrame raw

/-! ## The controller -/

/-- R335: CALLCHECK returns the first failing reason; every string is `p` followed by spaces, `p` not ending in one. -/
def Obligations.CallsignCheck : Prop :=
  (∀ c : Bytes, ∃ (p : Bytes) (k : Nat), c = p ++ List.replicate k 0x20#8 ∧ p.getLast? ≠ some 0x20#8) ∧
  (∀ (p : Bytes) (k : Nat) (ssid : BitVec 8), p.getLast? ≠ some 0x20#8 →
    callCheck (p ++ List.replicate k 0x20#8) ssid =
      if 6 < p.length + k then some .tooLong
      else if p = [] then some .empty
      else if ∃ d ∈ p, ¬((0x41 ≤ d.toNat ∧ d.toNat ≤ 0x5A) ∨ (0x30 ≤ d.toNat ∧ d.toNat ≤ 0x39)) then some .badChar
      else if 15 < ssid.toNat then some .badSsid
      else none)

/-- R332, R333, R334: VALIDATE returns the first failure in the rule's order. -/
def Obligations.ValidateReportsTheFirstFailure : Prop :=
  ∀ (c : ConfigRegs) (g : PixelGrid),
    (∀ k < 6, setBit c k = false → (∀ j < k, setBit c j = true) →
      validate c g = some { code := .invalidConfiguration, detail := .cfg k .unset }) ∧
    ((∀ k < 6, setBit c k = true) →
      validate c g =
        if c.maxPayload.value.toNat = 0 then some { code := .invalidConfiguration, detail := .cfg 4 .range }
        else if c.sampleRate.value.toNat = 0 ∨ 1000000 < c.sampleRate.value.toNat then
          some { code := .invalidConfiguration, detail := .cfg 5 .range }
        else if g.w ≠ 320 ∨ g.h ≠ 256 ∨ g.px.length ≠ g.w * g.h then
          some { code := .invalidDimensions, detail := .dim g.w g.h g.px.length }
        else match callCheck c.dstCall.value c.dstSsid.value, callCheck c.srcCall.value c.srcSsid.value with
          | some r, _ => some { code := .invalidCallsign, detail := .call .dst r }
          | none, some r => some { code := .invalidCallsign, detail := .call .src r }
          | none, none => none)

/-- R281: CFG_SET of each register, each with a value of its width, writes that register and nothing else; register 6 and above
only sets PV. -/
def Obligations.CfgSetWritesOneRegister : Prop :=
  (∀ (s : State) (k : Byte) (v : CfgValue), 6 ≤ k.toNat → exec (.cfgSet k v) s = .next { s with pv := true }) ∧
  ∀ (s : State) (b : Bytes) (n8 : BitVec 8) (n16 : BitVec 16) (n32 : BitVec 32), b.length ≤ 255 →
    exec (.cfgSet 0 (.str b)) s = .next { s with cfg := { s.cfg with dstCall := { set := true, value := b } } } ∧
    exec (.cfgSet 1 (.u8 n8)) s = .next { s with cfg := { s.cfg with dstSsid := { set := true, value := n8 } } } ∧
    exec (.cfgSet 2 (.str b)) s = .next { s with cfg := { s.cfg with srcCall := { set := true, value := b } } } ∧
    exec (.cfgSet 3 (.u8 n8)) s = .next { s with cfg := { s.cfg with srcSsid := { set := true, value := n8 } } } ∧
    exec (.cfgSet 4 (.u16 n16)) s = .next { s with cfg := { s.cfg with maxPayload := { set := true, value := n16 } } } ∧
    exec (.cfgSet 5 (.u32 n32)) s = .next { s with cfg := { s.cfg with sampleRate := { set := true, value := n32 } } }

/-- R282: the reads return the registers, with the numbers of R29 and R30, and change nothing but the list of what was
returned. -/
def Obligations.ReadsReturnTheRegisters : Prop :=
  ∀ s : State,
    (∀ k : Byte, k.toNat < 6 → exec (.cfgRead k) s = .next { s with replies := s.replies ++ [.cfg k (
      if setBit s.cfg k.toNat then
        some (if k = 0 then .str s.cfg.dstCall.value else if k = 1 then .u8 s.cfg.dstSsid.value
          else if k = 2 then .str s.cfg.srcCall.value else if k = 3 then .u8 s.cfg.srcSsid.value
          else if k = 4 then .u16 s.cfg.maxPayload.value else .u32 s.cfg.sampleRate.value)
      else none)] }) ∧
    (∀ k : Byte, 6 ≤ k.toNat →
      exec (.cfgRead k) s = .next { s with pv := true, replies := s.replies ++ [.cfg k none] }) ∧
    (exec .statusRead s = .next { s with replies := s.replies ++ [.status
      { state := stateCode s.ctl, errCode := errNumber s.errCode, errDetail := s.errDetail, framesTotal := s.framesTotal,
        framesWritten := s.framesWritten, pv := s.pv }] }) ∧
    [CtlState.idle, .waitWrite, .done, .error].map stateCode = [0, 1, 2, 3] ∧
    [ErrCode.none, .invalidDimensions, .invalidCallsign, .transportError, .invalidConfiguration].map errNumber
      = [0, 1, 2, 3, 4]

/-- R283, R331, R337: a START that fails its checks latches, clears the old status, records the error and writes nothing; this is
the whole of the next state. That the sample stream, SB, the frame space and the KISS output stay as they were is no rule of the spec
but the model's reading (log 14). -/
def Obligations.StartReportsTheError : Prop :=
  ∀ (s : State) (g : PixelGrid) (e : CycleError), s.ctl ≠ .waitWrite → validate s.cfg g = some e →
    exec (.start g) s = .next { s with
      lcfg := latchCfg s.cfg s.lcfg, grid := g, errCode := e.code, errDetail := e.detail, framesTotal := 0,
      framesWritten := 0, frameIdx := 0, fq := [], ctl := .error }

/-- R283, R285, R286: a START that passes its checks computes exactly FRAMES(lcfg, grid), with SSTV as R158 and R161 define it,
and hands over the first. -/
def Obligations.StartComputesAllFrames : Prop :=
  ∀ (s : State) (g : PixelGrid), s.ctl ≠ .waitWrite → validate s.cfg g = none →
    ∃ (t : State) (first : Bytes) (more : List Bytes), exec (.start g) s = .next t ∧
      t.lcfg =
        { dstCall := s.cfg.dstCall.value
          dstSsid := s.cfg.dstSsid.value
          srcCall := s.cfg.srcCall.value
          srcSsid := s.cfg.srcSsid.value
          maxPayload := s.cfg.maxPayload.value
          sampleRate := s.cfg.sampleRate.value } ∧
      t.grid = g ∧ cycleFrames Config.params t.lcfg g = first :: more ∧ t.fq = first :: more ∧
      t.framesTotal.toNat = more.length + 1 ∧ t.framesWritten = 0 ∧ t.frameIdx = 0 ∧ t.ctl = .waitWrite ∧
      t.errCode = .none ∧ t.errDetail = .none ∧ t.sink = s.sink ++ [first] ∧ t.outstanding = some first ∧
      t.cfg = s.cfg ∧ t.pv = s.pv ∧ t.replies = s.replies ∧ t.inbox = s.inbox

/-- R287: WRITE_OK of a frame that is not the last, of the last, and with no write outstanding; the invariant excludes a queue
without the next frame. -/
def Obligations.WriteOkAdvances : Prop :=
  (∀ s : State, s.ctl ≠ .waitWrite → exec .writeOk s = .next { s with pv := true }) ∧
  ∀ s : State, s.Inv → s.ctl = .waitWrite →
    (s.frameIdx.toNat + 1 = s.framesTotal.toNat →
      exec .writeOk s = .next { s with
        framesWritten := s.framesTotal, frameIdx := s.framesTotal,
        ctl := .done, fq := [] }) ∧
    (s.frameIdx.toNat + 1 ≠ s.framesTotal.toNat → ∃ b, s.fq[s.frameIdx.toNat + 1]? = some b ∧
      exec .writeOk s = .next { s with
        framesWritten := s.framesWritten + 1, frameIdx := s.frameIdx + 1, sink := s.sink ++ [b] })

/-- R288, R336, R337: WRITE_ERR, with a write outstanding and without. -/
def Obligations.WriteErrAborts : Prop :=
  (∀ s : State, s.ctl ≠ .waitWrite → exec .writeErr s = .next { s with pv := true }) ∧
  ∀ s : State, s.ctl = .waitWrite → exec .writeErr s = .next { s with
    errCode := .transportError, errDetail := .frame s.frameIdx, ctl := .error, fq := [] }

/-- R66, R286: SINK_WRITE hands the byte string over and writes no status. That it does so executed on its own is log 27. -/
def Obligations.SinkWriteHandsOverTheBytes : Prop :=
  ∀ (s : State) (b : Bytes), exec (.sinkWrite b) s = .next { s with sink := s.sink ++ [b] }

/-- R296, second row: every write answered WRITE_OK, with reads and CFG_SETs anywhere in between. The script stands in the model's
list of waiting items, `inbox`, and the run leaves in it what follows the script (log 4). -/
def Obligations.CycleLawEveryWriteAccepted : Prop :=
  ∀ (s : State) (g : PixelGrid) (l : List Instr) (rest : List Item), s.pv = false → s.ctl ≠ .waitWrite →
    validate s.cfg g = none → AcceptingScript l →
    l.count .writeOk + 1 = (cycleFrames Config.params (latchCfg s.cfg s.lcfg) g).length →
    s.inbox = hostItems (.start g :: (l ++ [.writeOk])) ++ rest →
    ∃ t : State, Sys2Proof.core.run (l.length + 2) s = .next t ∧
      t.sink = s.sink ++ cycleFrames Config.params (latchCfg s.cfg s.lcfg) g ∧ t.ctl = .done ∧ t.errCode = .none ∧
      t.errDetail = .none ∧ t.framesTotal.toNat = l.count .writeOk + 1 ∧ t.framesWritten = t.framesTotal ∧
      t.fq = [] ∧ t.runEnded ∧ t.inbox = rest

/-- R296, third row: the first WRITE_ERR answers write j. The script stands in the model's list of waiting items, `inbox`, and the run
leaves in it what follows the script (log 4). -/
def Obligations.CycleLawFirstFailedWrite : Prop :=
  ∀ (s : State) (g : PixelGrid) (l : List Instr) (rest : List Item), s.pv = false → s.ctl ≠ .waitWrite →
    validate s.cfg g = none → AcceptingScript l →
    l.count .writeOk < (cycleFrames Config.params (latchCfg s.cfg s.lcfg) g).length →
    s.inbox = hostItems (.start g :: (l ++ [.writeErr])) ++ rest →
    ∃ t : State, Sys2Proof.core.run (l.length + 2) s = .next t ∧
      t.sink = s.sink ++ (cycleFrames Config.params (latchCfg s.cfg s.lcfg) g).take (l.count .writeOk + 1) ∧
      t.ctl = .error ∧ t.errCode = .transportError ∧ t.errDetail = .frame (BitVec.ofNat 32 (l.count .writeOk)) ∧
      t.framesTotal.toNat = (cycleFrames Config.params (latchCfg s.cfg s.lcfg) g).length ∧
      t.framesWritten.toNat = l.count .writeOk ∧ t.fq = [] ∧ t.runEnded ∧ t.inbox = rest

/-- R299, R383: what START does depends on `cfg` and the grid alone. -/
def Obligations.NothingCarriesBetweenCycles : Prop :=
  ∀ (s1 s2 t1 t2 : State) (g : PixelGrid), s1.cfg = s2.cfg → s1.ctl ≠ .waitWrite → s2.ctl ≠ .waitWrite →
    exec (.start g) s1 = .next t1 → exec (.start g) s2 = .next t2 →
    t1.fq = t2.fq ∧ t1.ctl = t2.ctl ∧ t1.errCode = t2.errCode ∧ t1.errDetail = t2.errDetail ∧
      t1.framesTotal = t2.framesTotal ∧ t1.framesWritten = t2.framesWritten ∧ t1.frameIdx = t2.frameIdx ∧
      ∃ w, t1.sink = s1.sink ++ w ∧ t2.sink = s2.sink ++ w
end

