-- ==== Sys2Proof/Laws/State.lean ====
section
/-! SUPPORT. What each named update of the state leaves in each field: one lemma per field per update. -/

namespace Sys2Proof.Machine

variable (s : State)

/-! `State.markPv` -/

@[simp] theorem State.markPv_cfg : (s.markPv).cfg = s.cfg := rfl
@[simp] theorem State.markPv_lcfg : (s.markPv).lcfg = s.lcfg := rfl
@[simp] theorem State.markPv_grid : (s.markPv).grid = s.grid := rfl
@[simp] theorem State.markPv_ctl : (s.markPv).ctl = s.ctl := rfl
@[simp] theorem State.markPv_errCode : (s.markPv).errCode = s.errCode := rfl
@[simp] theorem State.markPv_errDetail : (s.markPv).errDetail = s.errDetail := rfl
@[simp] theorem State.markPv_framesTotal : (s.markPv).framesTotal = s.framesTotal := rfl
@[simp] theorem State.markPv_framesWritten : (s.markPv).framesWritten = s.framesWritten := rfl
@[simp] theorem State.markPv_fq : (s.markPv).fq = s.fq := rfl
@[simp] theorem State.markPv_frameIdx : (s.markPv).frameIdx = s.frameIdx := rfl
@[simp] theorem State.markPv_pv : (s.markPv).pv = true := rfl
@[simp] theorem State.markPv_seq : (s.markPv).seq = s.seq := rfl
@[simp] theorem State.markPv_crc : (s.markPv).crc = s.crc := rfl
@[simp] theorem State.markPv_chunkOff : (s.markPv).chunkOff = s.chunkOff := rfl
@[simp] theorem State.markPv_samples : (s.markPv).samples = s.samples := rfl
@[simp] theorem State.markPv_sb : (s.markPv).sb = s.sb := rfl
@[simp] theorem State.markPv_frame : (s.markPv).frame = s.frame := rfl
@[simp] theorem State.markPv_kiss : (s.markPv).kiss = s.kiss := rfl
@[simp] theorem State.markPv_sink : (s.markPv).sink = s.sink := rfl
@[simp] theorem State.markPv_replies : (s.markPv).replies = s.replies := rfl
@[simp] theorem State.markPv_inbox : (s.markPv).inbox = s.inbox := rfl

/-! `State.emitFrame` -/

@[simp] theorem State.emitFrame_cfg (b : Bytes) : (s.emitFrame b).cfg = s.cfg := rfl
@[simp] theorem State.emitFrame_lcfg (b : Bytes) : (s.emitFrame b).lcfg = s.lcfg := rfl
@[simp] theorem State.emitFrame_grid (b : Bytes) : (s.emitFrame b).grid = s.grid := rfl
@[simp] theorem State.emitFrame_ctl (b : Bytes) : (s.emitFrame b).ctl = s.ctl := rfl
@[simp] theorem State.emitFrame_errCode (b : Bytes) : (s.emitFrame b).errCode = s.errCode := rfl
@[simp] theorem State.emitFrame_errDetail (b : Bytes) : (s.emitFrame b).errDetail = s.errDetail := rfl
@[simp] theorem State.emitFrame_framesTotal (b : Bytes) : (s.emitFrame b).framesTotal = s.framesTotal := rfl
@[simp] theorem State.emitFrame_framesWritten (b : Bytes) : (s.emitFrame b).framesWritten = s.framesWritten := rfl
@[simp] theorem State.emitFrame_fq (b : Bytes) : (s.emitFrame b).fq = s.fq := rfl
@[simp] theorem State.emitFrame_frameIdx (b : Bytes) : (s.emitFrame b).frameIdx = s.frameIdx := rfl
@[simp] theorem State.emitFrame_pv (b : Bytes) : (s.emitFrame b).pv = s.pv := rfl
@[simp] theorem State.emitFrame_seq (b : Bytes) : (s.emitFrame b).seq = s.seq := rfl
@[simp] theorem State.emitFrame_crc (b : Bytes) : (s.emitFrame b).crc = s.crc := rfl
@[simp] theorem State.emitFrame_chunkOff (b : Bytes) : (s.emitFrame b).chunkOff = s.chunkOff := rfl
@[simp] theorem State.emitFrame_samples (b : Bytes) : (s.emitFrame b).samples = s.samples := rfl
@[simp] theorem State.emitFrame_sb (b : Bytes) : (s.emitFrame b).sb = s.sb := rfl
@[simp] theorem State.emitFrame_frame (b : Bytes) : (s.emitFrame b).frame = s.frame ++ b := rfl
@[simp] theorem State.emitFrame_kiss (b : Bytes) : (s.emitFrame b).kiss = s.kiss := rfl
@[simp] theorem State.emitFrame_sink (b : Bytes) : (s.emitFrame b).sink = s.sink := rfl
@[simp] theorem State.emitFrame_replies (b : Bytes) : (s.emitFrame b).replies = s.replies := rfl
@[simp] theorem State.emitFrame_inbox (b : Bytes) : (s.emitFrame b).inbox = s.inbox := rfl

/-! `State.emitKiss` -/

@[simp] theorem State.emitKiss_cfg (b : Bytes) : (s.emitKiss b).cfg = s.cfg := rfl
@[simp] theorem State.emitKiss_lcfg (b : Bytes) : (s.emitKiss b).lcfg = s.lcfg := rfl
@[simp] theorem State.emitKiss_grid (b : Bytes) : (s.emitKiss b).grid = s.grid := rfl
@[simp] theorem State.emitKiss_ctl (b : Bytes) : (s.emitKiss b).ctl = s.ctl := rfl
@[simp] theorem State.emitKiss_errCode (b : Bytes) : (s.emitKiss b).errCode = s.errCode := rfl
@[simp] theorem State.emitKiss_errDetail (b : Bytes) : (s.emitKiss b).errDetail = s.errDetail := rfl
@[simp] theorem State.emitKiss_framesTotal (b : Bytes) : (s.emitKiss b).framesTotal = s.framesTotal := rfl
@[simp] theorem State.emitKiss_framesWritten (b : Bytes) : (s.emitKiss b).framesWritten = s.framesWritten := rfl
@[simp] theorem State.emitKiss_fq (b : Bytes) : (s.emitKiss b).fq = s.fq := rfl
@[simp] theorem State.emitKiss_frameIdx (b : Bytes) : (s.emitKiss b).frameIdx = s.frameIdx := rfl
@[simp] theorem State.emitKiss_pv (b : Bytes) : (s.emitKiss b).pv = s.pv := rfl
@[simp] theorem State.emitKiss_seq (b : Bytes) : (s.emitKiss b).seq = s.seq := rfl
@[simp] theorem State.emitKiss_crc (b : Bytes) : (s.emitKiss b).crc = s.crc := rfl
@[simp] theorem State.emitKiss_chunkOff (b : Bytes) : (s.emitKiss b).chunkOff = s.chunkOff := rfl
@[simp] theorem State.emitKiss_samples (b : Bytes) : (s.emitKiss b).samples = s.samples := rfl
@[simp] theorem State.emitKiss_sb (b : Bytes) : (s.emitKiss b).sb = s.sb := rfl
@[simp] theorem State.emitKiss_frame (b : Bytes) : (s.emitKiss b).frame = s.frame := rfl
@[simp] theorem State.emitKiss_kiss (b : Bytes) : (s.emitKiss b).kiss = s.kiss ++ b := rfl
@[simp] theorem State.emitKiss_sink (b : Bytes) : (s.emitKiss b).sink = s.sink := rfl
@[simp] theorem State.emitKiss_replies (b : Bytes) : (s.emitKiss b).replies = s.replies := rfl
@[simp] theorem State.emitKiss_inbox (b : Bytes) : (s.emitKiss b).inbox = s.inbox := rfl

/-! `State.emitSb` -/

@[simp] theorem State.emitSb_cfg (b : Bytes) : (s.emitSb b).cfg = s.cfg := rfl
@[simp] theorem State.emitSb_lcfg (b : Bytes) : (s.emitSb b).lcfg = s.lcfg := rfl
@[simp] theorem State.emitSb_grid (b : Bytes) : (s.emitSb b).grid = s.grid := rfl
@[simp] theorem State.emitSb_ctl (b : Bytes) : (s.emitSb b).ctl = s.ctl := rfl
@[simp] theorem State.emitSb_errCode (b : Bytes) : (s.emitSb b).errCode = s.errCode := rfl
@[simp] theorem State.emitSb_errDetail (b : Bytes) : (s.emitSb b).errDetail = s.errDetail := rfl
@[simp] theorem State.emitSb_framesTotal (b : Bytes) : (s.emitSb b).framesTotal = s.framesTotal := rfl
@[simp] theorem State.emitSb_framesWritten (b : Bytes) : (s.emitSb b).framesWritten = s.framesWritten := rfl
@[simp] theorem State.emitSb_fq (b : Bytes) : (s.emitSb b).fq = s.fq := rfl
@[simp] theorem State.emitSb_frameIdx (b : Bytes) : (s.emitSb b).frameIdx = s.frameIdx := rfl
@[simp] theorem State.emitSb_pv (b : Bytes) : (s.emitSb b).pv = s.pv := rfl
@[simp] theorem State.emitSb_seq (b : Bytes) : (s.emitSb b).seq = s.seq := rfl
@[simp] theorem State.emitSb_crc (b : Bytes) : (s.emitSb b).crc = s.crc := rfl
@[simp] theorem State.emitSb_chunkOff (b : Bytes) : (s.emitSb b).chunkOff = s.chunkOff := rfl
@[simp] theorem State.emitSb_samples (b : Bytes) : (s.emitSb b).samples = s.samples := rfl
@[simp] theorem State.emitSb_sb (b : Bytes) : (s.emitSb b).sb = s.sb ++ b := rfl
@[simp] theorem State.emitSb_frame (b : Bytes) : (s.emitSb b).frame = s.frame := rfl
@[simp] theorem State.emitSb_kiss (b : Bytes) : (s.emitSb b).kiss = s.kiss := rfl
@[simp] theorem State.emitSb_sink (b : Bytes) : (s.emitSb b).sink = s.sink := rfl
@[simp] theorem State.emitSb_replies (b : Bytes) : (s.emitSb b).replies = s.replies := rfl
@[simp] theorem State.emitSb_inbox (b : Bytes) : (s.emitSb b).inbox = s.inbox := rfl

/-! `State.reply` -/

@[simp] theorem State.reply_cfg (r : Reply) : (s.reply r).cfg = s.cfg := rfl
@[simp] theorem State.reply_lcfg (r : Reply) : (s.reply r).lcfg = s.lcfg := rfl
@[simp] theorem State.reply_grid (r : Reply) : (s.reply r).grid = s.grid := rfl
@[simp] theorem State.reply_ctl (r : Reply) : (s.reply r).ctl = s.ctl := rfl
@[simp] theorem State.reply_errCode (r : Reply) : (s.reply r).errCode = s.errCode := rfl
@[simp] theorem State.reply_errDetail (r : Reply) : (s.reply r).errDetail = s.errDetail := rfl
@[simp] theorem State.reply_framesTotal (r : Reply) : (s.reply r).framesTotal = s.framesTotal := rfl
@[simp] theorem State.reply_framesWritten (r : Reply) : (s.reply r).framesWritten = s.framesWritten := rfl
@[simp] theorem State.reply_fq (r : Reply) : (s.reply r).fq = s.fq := rfl
@[simp] theorem State.reply_frameIdx (r : Reply) : (s.reply r).frameIdx = s.frameIdx := rfl
@[simp] theorem State.reply_pv (r : Reply) : (s.reply r).pv = s.pv := rfl
@[simp] theorem State.reply_seq (r : Reply) : (s.reply r).seq = s.seq := rfl
@[simp] theorem State.reply_crc (r : Reply) : (s.reply r).crc = s.crc := rfl
@[simp] theorem State.reply_chunkOff (r : Reply) : (s.reply r).chunkOff = s.chunkOff := rfl
@[simp] theorem State.reply_samples (r : Reply) : (s.reply r).samples = s.samples := rfl
@[simp] theorem State.reply_sb (r : Reply) : (s.reply r).sb = s.sb := rfl
@[simp] theorem State.reply_frame (r : Reply) : (s.reply r).frame = s.frame := rfl
@[simp] theorem State.reply_kiss (r : Reply) : (s.reply r).kiss = s.kiss := rfl
@[simp] theorem State.reply_sink (r : Reply) : (s.reply r).sink = s.sink := rfl
@[simp] theorem State.reply_replies (r : Reply) : (s.reply r).replies = s.replies ++ [r] := rfl
@[simp] theorem State.reply_inbox (r : Reply) : (s.reply r).inbox = s.inbox := rfl

/-! `State.sinkWrite` -/

@[simp] theorem State.sinkWrite_cfg (b : Bytes) : (s.sinkWrite b).cfg = s.cfg := rfl
@[simp] theorem State.sinkWrite_lcfg (b : Bytes) : (s.sinkWrite b).lcfg = s.lcfg := rfl
@[simp] theorem State.sinkWrite_grid (b : Bytes) : (s.sinkWrite b).grid = s.grid := rfl
@[simp] theorem State.sinkWrite_ctl (b : Bytes) : (s.sinkWrite b).ctl = s.ctl := rfl
@[simp] theorem State.sinkWrite_errCode (b : Bytes) : (s.sinkWrite b).errCode = s.errCode := rfl
@[simp] theorem State.sinkWrite_errDetail (b : Bytes) : (s.sinkWrite b).errDetail = s.errDetail := rfl
@[simp] theorem State.sinkWrite_framesTotal (b : Bytes) : (s.sinkWrite b).framesTotal = s.framesTotal := rfl
@[simp] theorem State.sinkWrite_framesWritten (b : Bytes) : (s.sinkWrite b).framesWritten = s.framesWritten := rfl
@[simp] theorem State.sinkWrite_fq (b : Bytes) : (s.sinkWrite b).fq = s.fq := rfl
@[simp] theorem State.sinkWrite_frameIdx (b : Bytes) : (s.sinkWrite b).frameIdx = s.frameIdx := rfl
@[simp] theorem State.sinkWrite_pv (b : Bytes) : (s.sinkWrite b).pv = s.pv := rfl
@[simp] theorem State.sinkWrite_seq (b : Bytes) : (s.sinkWrite b).seq = s.seq := rfl
@[simp] theorem State.sinkWrite_crc (b : Bytes) : (s.sinkWrite b).crc = s.crc := rfl
@[simp] theorem State.sinkWrite_chunkOff (b : Bytes) : (s.sinkWrite b).chunkOff = s.chunkOff := rfl
@[simp] theorem State.sinkWrite_samples (b : Bytes) : (s.sinkWrite b).samples = s.samples := rfl
@[simp] theorem State.sinkWrite_sb (b : Bytes) : (s.sinkWrite b).sb = s.sb := rfl
@[simp] theorem State.sinkWrite_frame (b : Bytes) : (s.sinkWrite b).frame = s.frame := rfl
@[simp] theorem State.sinkWrite_kiss (b : Bytes) : (s.sinkWrite b).kiss = s.kiss := rfl
@[simp] theorem State.sinkWrite_sink (b : Bytes) : (s.sinkWrite b).sink = s.sink ++ [b] := rfl
@[simp] theorem State.sinkWrite_replies (b : Bytes) : (s.sinkWrite b).replies = s.replies := rfl
@[simp] theorem State.sinkWrite_inbox (b : Bytes) : (s.sinkWrite b).inbox = s.inbox := rfl

/-! `State.setCrc` -/

@[simp] theorem State.setCrc_cfg (c : BitVec 16) : (s.setCrc c).cfg = s.cfg := rfl
@[simp] theorem State.setCrc_lcfg (c : BitVec 16) : (s.setCrc c).lcfg = s.lcfg := rfl
@[simp] theorem State.setCrc_grid (c : BitVec 16) : (s.setCrc c).grid = s.grid := rfl
@[simp] theorem State.setCrc_ctl (c : BitVec 16) : (s.setCrc c).ctl = s.ctl := rfl
@[simp] theorem State.setCrc_errCode (c : BitVec 16) : (s.setCrc c).errCode = s.errCode := rfl
@[simp] theorem State.setCrc_errDetail (c : BitVec 16) : (s.setCrc c).errDetail = s.errDetail := rfl
@[simp] theorem State.setCrc_framesTotal (c : BitVec 16) : (s.setCrc c).framesTotal = s.framesTotal := rfl
@[simp] theorem State.setCrc_framesWritten (c : BitVec 16) : (s.setCrc c).framesWritten = s.framesWritten := rfl
@[simp] theorem State.setCrc_fq (c : BitVec 16) : (s.setCrc c).fq = s.fq := rfl
@[simp] theorem State.setCrc_frameIdx (c : BitVec 16) : (s.setCrc c).frameIdx = s.frameIdx := rfl
@[simp] theorem State.setCrc_pv (c : BitVec 16) : (s.setCrc c).pv = s.pv := rfl
@[simp] theorem State.setCrc_seq (c : BitVec 16) : (s.setCrc c).seq = s.seq := rfl
@[simp] theorem State.setCrc_crc (c : BitVec 16) : (s.setCrc c).crc = c := rfl
@[simp] theorem State.setCrc_chunkOff (c : BitVec 16) : (s.setCrc c).chunkOff = s.chunkOff := rfl
@[simp] theorem State.setCrc_samples (c : BitVec 16) : (s.setCrc c).samples = s.samples := rfl
@[simp] theorem State.setCrc_sb (c : BitVec 16) : (s.setCrc c).sb = s.sb := rfl
@[simp] theorem State.setCrc_frame (c : BitVec 16) : (s.setCrc c).frame = s.frame := rfl
@[simp] theorem State.setCrc_kiss (c : BitVec 16) : (s.setCrc c).kiss = s.kiss := rfl
@[simp] theorem State.setCrc_sink (c : BitVec 16) : (s.setCrc c).sink = s.sink := rfl
@[simp] theorem State.setCrc_replies (c : BitVec 16) : (s.setCrc c).replies = s.replies := rfl
@[simp] theorem State.setCrc_inbox (c : BitVec 16) : (s.setCrc c).inbox = s.inbox := rfl

/-! `State.setChunkOff` -/

@[simp] theorem State.setChunkOff_cfg (n : BitVec 32) : (s.setChunkOff n).cfg = s.cfg := rfl
@[simp] theorem State.setChunkOff_lcfg (n : BitVec 32) : (s.setChunkOff n).lcfg = s.lcfg := rfl
@[simp] theorem State.setChunkOff_grid (n : BitVec 32) : (s.setChunkOff n).grid = s.grid := rfl
@[simp] theorem State.setChunkOff_ctl (n : BitVec 32) : (s.setChunkOff n).ctl = s.ctl := rfl
@[simp] theorem State.setChunkOff_errCode (n : BitVec 32) : (s.setChunkOff n).errCode = s.errCode := rfl
@[simp] theorem State.setChunkOff_errDetail (n : BitVec 32) : (s.setChunkOff n).errDetail = s.errDetail := rfl
@[simp] theorem State.setChunkOff_framesTotal (n : BitVec 32) : (s.setChunkOff n).framesTotal = s.framesTotal := rfl
@[simp] theorem State.setChunkOff_framesWritten (n : BitVec 32) : (s.setChunkOff n).framesWritten = s.framesWritten := rfl
@[simp] theorem State.setChunkOff_fq (n : BitVec 32) : (s.setChunkOff n).fq = s.fq := rfl
@[simp] theorem State.setChunkOff_frameIdx (n : BitVec 32) : (s.setChunkOff n).frameIdx = s.frameIdx := rfl
@[simp] theorem State.setChunkOff_pv (n : BitVec 32) : (s.setChunkOff n).pv = s.pv := rfl
@[simp] theorem State.setChunkOff_seq (n : BitVec 32) : (s.setChunkOff n).seq = s.seq := rfl
@[simp] theorem State.setChunkOff_crc (n : BitVec 32) : (s.setChunkOff n).crc = s.crc := rfl
@[simp] theorem State.setChunkOff_chunkOff (n : BitVec 32) : (s.setChunkOff n).chunkOff = n := rfl
@[simp] theorem State.setChunkOff_samples (n : BitVec 32) : (s.setChunkOff n).samples = s.samples := rfl
@[simp] theorem State.setChunkOff_sb (n : BitVec 32) : (s.setChunkOff n).sb = s.sb := rfl
@[simp] theorem State.setChunkOff_frame (n : BitVec 32) : (s.setChunkOff n).frame = s.frame := rfl
@[simp] theorem State.setChunkOff_kiss (n : BitVec 32) : (s.setChunkOff n).kiss = s.kiss := rfl
@[simp] theorem State.setChunkOff_sink (n : BitVec 32) : (s.setChunkOff n).sink = s.sink := rfl
@[simp] theorem State.setChunkOff_replies (n : BitVec 32) : (s.setChunkOff n).replies = s.replies := rfl
@[simp] theorem State.setChunkOff_inbox (n : BitVec 32) : (s.setChunkOff n).inbox = s.inbox := rfl

/-! `State.withSeq` -/

@[simp] theorem State.withSeq_cfg (r : SeqRegs) (xs : List Sample) : (s.withSeq r xs).cfg = s.cfg := rfl
@[simp] theorem State.withSeq_lcfg (r : SeqRegs) (xs : List Sample) : (s.withSeq r xs).lcfg = s.lcfg := rfl
@[simp] theorem State.withSeq_grid (r : SeqRegs) (xs : List Sample) : (s.withSeq r xs).grid = s.grid := rfl
@[simp] theorem State.withSeq_ctl (r : SeqRegs) (xs : List Sample) : (s.withSeq r xs).ctl = s.ctl := rfl
@[simp] theorem State.withSeq_errCode (r : SeqRegs) (xs : List Sample) : (s.withSeq r xs).errCode = s.errCode := rfl
@[simp] theorem State.withSeq_errDetail (r : SeqRegs) (xs : List Sample) : (s.withSeq r xs).errDetail = s.errDetail := rfl
@[simp] theorem State.withSeq_framesTotal (r : SeqRegs) (xs : List Sample) : (s.withSeq r xs).framesTotal = s.framesTotal := rfl
@[simp] theorem State.withSeq_framesWritten (r : SeqRegs) (xs : List Sample) : (s.withSeq r xs).framesWritten = s.framesWritten := rfl
@[simp] theorem State.withSeq_fq (r : SeqRegs) (xs : List Sample) : (s.withSeq r xs).fq = s.fq := rfl
@[simp] theorem State.withSeq_frameIdx (r : SeqRegs) (xs : List Sample) : (s.withSeq r xs).frameIdx = s.frameIdx := rfl
@[simp] theorem State.withSeq_pv (r : SeqRegs) (xs : List Sample) : (s.withSeq r xs).pv = s.pv := rfl
@[simp] theorem State.withSeq_seq (r : SeqRegs) (xs : List Sample) : (s.withSeq r xs).seq = r := rfl
@[simp] theorem State.withSeq_crc (r : SeqRegs) (xs : List Sample) : (s.withSeq r xs).crc = s.crc := rfl
@[simp] theorem State.withSeq_chunkOff (r : SeqRegs) (xs : List Sample) : (s.withSeq r xs).chunkOff = s.chunkOff := rfl
@[simp] theorem State.withSeq_samples (r : SeqRegs) (xs : List Sample) : (s.withSeq r xs).samples = xs := rfl
@[simp] theorem State.withSeq_sb (r : SeqRegs) (xs : List Sample) : (s.withSeq r xs).sb = s.sb := rfl
@[simp] theorem State.withSeq_frame (r : SeqRegs) (xs : List Sample) : (s.withSeq r xs).frame = s.frame := rfl
@[simp] theorem State.withSeq_kiss (r : SeqRegs) (xs : List Sample) : (s.withSeq r xs).kiss = s.kiss := rfl
@[simp] theorem State.withSeq_sink (r : SeqRegs) (xs : List Sample) : (s.withSeq r xs).sink = s.sink := rfl
@[simp] theorem State.withSeq_replies (r : SeqRegs) (xs : List Sample) : (s.withSeq r xs).replies = s.replies := rfl
@[simp] theorem State.withSeq_inbox (r : SeqRegs) (xs : List Sample) : (s.withSeq r xs).inbox = s.inbox := rfl

/-! `State.withCfg` -/

@[simp] theorem State.withCfg_cfg (c : ConfigRegs) : (s.withCfg c).cfg = c := rfl
@[simp] theorem State.withCfg_lcfg (c : ConfigRegs) : (s.withCfg c).lcfg = s.lcfg := rfl
@[simp] theorem State.withCfg_grid (c : ConfigRegs) : (s.withCfg c).grid = s.grid := rfl
@[simp] theorem State.withCfg_ctl (c : ConfigRegs) : (s.withCfg c).ctl = s.ctl := rfl
@[simp] theorem State.withCfg_errCode (c : ConfigRegs) : (s.withCfg c).errCode = s.errCode := rfl
@[simp] theorem State.withCfg_errDetail (c : ConfigRegs) : (s.withCfg c).errDetail = s.errDetail := rfl
@[simp] theorem State.withCfg_framesTotal (c : ConfigRegs) : (s.withCfg c).framesTotal = s.framesTotal := rfl
@[simp] theorem State.withCfg_framesWritten (c : ConfigRegs) : (s.withCfg c).framesWritten = s.framesWritten := rfl
@[simp] theorem State.withCfg_fq (c : ConfigRegs) : (s.withCfg c).fq = s.fq := rfl
@[simp] theorem State.withCfg_frameIdx (c : ConfigRegs) : (s.withCfg c).frameIdx = s.frameIdx := rfl
@[simp] theorem State.withCfg_pv (c : ConfigRegs) : (s.withCfg c).pv = s.pv := rfl
@[simp] theorem State.withCfg_seq (c : ConfigRegs) : (s.withCfg c).seq = s.seq := rfl
@[simp] theorem State.withCfg_crc (c : ConfigRegs) : (s.withCfg c).crc = s.crc := rfl
@[simp] theorem State.withCfg_chunkOff (c : ConfigRegs) : (s.withCfg c).chunkOff = s.chunkOff := rfl
@[simp] theorem State.withCfg_samples (c : ConfigRegs) : (s.withCfg c).samples = s.samples := rfl
@[simp] theorem State.withCfg_sb (c : ConfigRegs) : (s.withCfg c).sb = s.sb := rfl
@[simp] theorem State.withCfg_frame (c : ConfigRegs) : (s.withCfg c).frame = s.frame := rfl
@[simp] theorem State.withCfg_kiss (c : ConfigRegs) : (s.withCfg c).kiss = s.kiss := rfl
@[simp] theorem State.withCfg_sink (c : ConfigRegs) : (s.withCfg c).sink = s.sink := rfl
@[simp] theorem State.withCfg_replies (c : ConfigRegs) : (s.withCfg c).replies = s.replies := rfl
@[simp] theorem State.withCfg_inbox (c : ConfigRegs) : (s.withCfg c).inbox = s.inbox := rfl

/-! `State.withInbox` -/

@[simp] theorem State.withInbox_cfg (l : List Item) : (s.withInbox l).cfg = s.cfg := rfl
@[simp] theorem State.withInbox_lcfg (l : List Item) : (s.withInbox l).lcfg = s.lcfg := rfl
@[simp] theorem State.withInbox_grid (l : List Item) : (s.withInbox l).grid = s.grid := rfl
@[simp] theorem State.withInbox_ctl (l : List Item) : (s.withInbox l).ctl = s.ctl := rfl
@[simp] theorem State.withInbox_errCode (l : List Item) : (s.withInbox l).errCode = s.errCode := rfl
@[simp] theorem State.withInbox_errDetail (l : List Item) : (s.withInbox l).errDetail = s.errDetail := rfl
@[simp] theorem State.withInbox_framesTotal (l : List Item) : (s.withInbox l).framesTotal = s.framesTotal := rfl
@[simp] theorem State.withInbox_framesWritten (l : List Item) : (s.withInbox l).framesWritten = s.framesWritten := rfl
@[simp] theorem State.withInbox_fq (l : List Item) : (s.withInbox l).fq = s.fq := rfl
@[simp] theorem State.withInbox_frameIdx (l : List Item) : (s.withInbox l).frameIdx = s.frameIdx := rfl
@[simp] theorem State.withInbox_pv (l : List Item) : (s.withInbox l).pv = s.pv := rfl
@[simp] theorem State.withInbox_seq (l : List Item) : (s.withInbox l).seq = s.seq := rfl
@[simp] theorem State.withInbox_crc (l : List Item) : (s.withInbox l).crc = s.crc := rfl
@[simp] theorem State.withInbox_chunkOff (l : List Item) : (s.withInbox l).chunkOff = s.chunkOff := rfl
@[simp] theorem State.withInbox_samples (l : List Item) : (s.withInbox l).samples = s.samples := rfl
@[simp] theorem State.withInbox_sb (l : List Item) : (s.withInbox l).sb = s.sb := rfl
@[simp] theorem State.withInbox_frame (l : List Item) : (s.withInbox l).frame = s.frame := rfl
@[simp] theorem State.withInbox_kiss (l : List Item) : (s.withInbox l).kiss = s.kiss := rfl
@[simp] theorem State.withInbox_sink (l : List Item) : (s.withInbox l).sink = s.sink := rfl
@[simp] theorem State.withInbox_replies (l : List Item) : (s.withInbox l).replies = s.replies := rfl
@[simp] theorem State.withInbox_inbox (l : List Item) : (s.withInbox l).inbox = l := rfl

/-! `State.clearSpaces` -/

@[simp] theorem State.clearSpaces_cfg : (s.clearSpaces).cfg = s.cfg := rfl
@[simp] theorem State.clearSpaces_lcfg : (s.clearSpaces).lcfg = s.lcfg := rfl
@[simp] theorem State.clearSpaces_grid : (s.clearSpaces).grid = s.grid := rfl
@[simp] theorem State.clearSpaces_ctl : (s.clearSpaces).ctl = s.ctl := rfl
@[simp] theorem State.clearSpaces_errCode : (s.clearSpaces).errCode = s.errCode := rfl
@[simp] theorem State.clearSpaces_errDetail : (s.clearSpaces).errDetail = s.errDetail := rfl
@[simp] theorem State.clearSpaces_framesTotal : (s.clearSpaces).framesTotal = s.framesTotal := rfl
@[simp] theorem State.clearSpaces_framesWritten : (s.clearSpaces).framesWritten = s.framesWritten := rfl
@[simp] theorem State.clearSpaces_fq : (s.clearSpaces).fq = s.fq := rfl
@[simp] theorem State.clearSpaces_frameIdx : (s.clearSpaces).frameIdx = s.frameIdx := rfl
@[simp] theorem State.clearSpaces_pv : (s.clearSpaces).pv = s.pv := rfl
@[simp] theorem State.clearSpaces_seq : (s.clearSpaces).seq = s.seq := rfl
@[simp] theorem State.clearSpaces_crc : (s.clearSpaces).crc = s.crc := rfl
@[simp] theorem State.clearSpaces_chunkOff : (s.clearSpaces).chunkOff = s.chunkOff := rfl
@[simp] theorem State.clearSpaces_samples : (s.clearSpaces).samples = [] := rfl
@[simp] theorem State.clearSpaces_sb : (s.clearSpaces).sb = [] := rfl
@[simp] theorem State.clearSpaces_frame : (s.clearSpaces).frame = [] := rfl
@[simp] theorem State.clearSpaces_kiss : (s.clearSpaces).kiss = [] := rfl
@[simp] theorem State.clearSpaces_sink : (s.clearSpaces).sink = s.sink := rfl
@[simp] theorem State.clearSpaces_replies : (s.clearSpaces).replies = s.replies := rfl
@[simp] theorem State.clearSpaces_inbox : (s.clearSpaces).inbox = s.inbox := rfl

/-! `State.queueFrames` -/

@[simp] theorem State.queueFrames_cfg (q : List Bytes) : (s.queueFrames q).cfg = s.cfg := rfl
@[simp] theorem State.queueFrames_lcfg (q : List Bytes) : (s.queueFrames q).lcfg = s.lcfg := rfl
@[simp] theorem State.queueFrames_grid (q : List Bytes) : (s.queueFrames q).grid = s.grid := rfl
@[simp] theorem State.queueFrames_ctl (q : List Bytes) : (s.queueFrames q).ctl = s.ctl := rfl
@[simp] theorem State.queueFrames_errCode (q : List Bytes) : (s.queueFrames q).errCode = s.errCode := rfl
@[simp] theorem State.queueFrames_errDetail (q : List Bytes) : (s.queueFrames q).errDetail = s.errDetail := rfl
@[simp] theorem State.queueFrames_framesTotal (q : List Bytes) : (s.queueFrames q).framesTotal = BitVec.ofNat 32 q.length := rfl
@[simp] theorem State.queueFrames_framesWritten (q : List Bytes) : (s.queueFrames q).framesWritten = s.framesWritten := rfl
@[simp] theorem State.queueFrames_fq (q : List Bytes) : (s.queueFrames q).fq = q := rfl
@[simp] theorem State.queueFrames_frameIdx (q : List Bytes) : (s.queueFrames q).frameIdx = s.frameIdx := rfl
@[simp] theorem State.queueFrames_pv (q : List Bytes) : (s.queueFrames q).pv = s.pv := rfl
@[simp] theorem State.queueFrames_seq (q : List Bytes) : (s.queueFrames q).seq = s.seq := rfl
@[simp] theorem State.queueFrames_crc (q : List Bytes) : (s.queueFrames q).crc = s.crc := rfl
@[simp] theorem State.queueFrames_chunkOff (q : List Bytes) : (s.queueFrames q).chunkOff = s.chunkOff := rfl
@[simp] theorem State.queueFrames_samples (q : List Bytes) : (s.queueFrames q).samples = s.samples := rfl
@[simp] theorem State.queueFrames_sb (q : List Bytes) : (s.queueFrames q).sb = s.sb := rfl
@[simp] theorem State.queueFrames_frame (q : List Bytes) : (s.queueFrames q).frame = s.frame := rfl
@[simp] theorem State.queueFrames_kiss (q : List Bytes) : (s.queueFrames q).kiss = s.kiss := rfl
@[simp] theorem State.queueFrames_sink (q : List Bytes) : (s.queueFrames q).sink = s.sink := rfl
@[simp] theorem State.queueFrames_replies (q : List Bytes) : (s.queueFrames q).replies = s.replies := rfl
@[simp] theorem State.queueFrames_inbox (q : List Bytes) : (s.queueFrames q).inbox = s.inbox := rfl

/-! `State.complete` -/

@[simp] theorem State.complete_cfg : (s.complete).cfg = s.cfg := rfl
@[simp] theorem State.complete_lcfg : (s.complete).lcfg = s.lcfg := rfl
@[simp] theorem State.complete_grid : (s.complete).grid = s.grid := rfl
@[simp] theorem State.complete_ctl : (s.complete).ctl = .done := rfl
@[simp] theorem State.complete_errCode : (s.complete).errCode = s.errCode := rfl
@[simp] theorem State.complete_errDetail : (s.complete).errDetail = s.errDetail := rfl
@[simp] theorem State.complete_framesTotal : (s.complete).framesTotal = s.framesTotal := rfl
@[simp] theorem State.complete_framesWritten : (s.complete).framesWritten = s.framesWritten := rfl
@[simp] theorem State.complete_fq : (s.complete).fq = [] := rfl
@[simp] theorem State.complete_frameIdx : (s.complete).frameIdx = s.frameIdx := rfl
@[simp] theorem State.complete_pv : (s.complete).pv = s.pv := rfl
@[simp] theorem State.complete_seq : (s.complete).seq = s.seq := rfl
@[simp] theorem State.complete_crc : (s.complete).crc = s.crc := rfl
@[simp] theorem State.complete_chunkOff : (s.complete).chunkOff = s.chunkOff := rfl
@[simp] theorem State.complete_samples : (s.complete).samples = s.samples := rfl
@[simp] theorem State.complete_sb : (s.complete).sb = s.sb := rfl
@[simp] theorem State.complete_frame : (s.complete).frame = s.frame := rfl
@[simp] theorem State.complete_kiss : (s.complete).kiss = s.kiss := rfl
@[simp] theorem State.complete_sink : (s.complete).sink = s.sink := rfl
@[simp] theorem State.complete_replies : (s.complete).replies = s.replies := rfl
@[simp] theorem State.complete_inbox : (s.complete).inbox = s.inbox := rfl

/-! `State.awaitWrite` -/

@[simp] theorem State.awaitWrite_cfg : (s.awaitWrite).cfg = s.cfg := rfl
@[simp] theorem State.awaitWrite_lcfg : (s.awaitWrite).lcfg = s.lcfg := rfl
@[simp] theorem State.awaitWrite_grid : (s.awaitWrite).grid = s.grid := rfl
@[simp] theorem State.awaitWrite_ctl : (s.awaitWrite).ctl = .waitWrite := rfl
@[simp] theorem State.awaitWrite_errCode : (s.awaitWrite).errCode = s.errCode := rfl
@[simp] theorem State.awaitWrite_errDetail : (s.awaitWrite).errDetail = s.errDetail := rfl
@[simp] theorem State.awaitWrite_framesTotal : (s.awaitWrite).framesTotal = s.framesTotal := rfl
@[simp] theorem State.awaitWrite_framesWritten : (s.awaitWrite).framesWritten = s.framesWritten := rfl
@[simp] theorem State.awaitWrite_fq : (s.awaitWrite).fq = s.fq := rfl
@[simp] theorem State.awaitWrite_frameIdx : (s.awaitWrite).frameIdx = s.frameIdx := rfl
@[simp] theorem State.awaitWrite_pv : (s.awaitWrite).pv = s.pv := rfl
@[simp] theorem State.awaitWrite_seq : (s.awaitWrite).seq = s.seq := rfl
@[simp] theorem State.awaitWrite_crc : (s.awaitWrite).crc = s.crc := rfl
@[simp] theorem State.awaitWrite_chunkOff : (s.awaitWrite).chunkOff = s.chunkOff := rfl
@[simp] theorem State.awaitWrite_samples : (s.awaitWrite).samples = s.samples := rfl
@[simp] theorem State.awaitWrite_sb : (s.awaitWrite).sb = s.sb := rfl
@[simp] theorem State.awaitWrite_frame : (s.awaitWrite).frame = s.frame := rfl
@[simp] theorem State.awaitWrite_kiss : (s.awaitWrite).kiss = s.kiss := rfl
@[simp] theorem State.awaitWrite_sink : (s.awaitWrite).sink = s.sink := rfl
@[simp] theorem State.awaitWrite_replies : (s.awaitWrite).replies = s.replies := rfl
@[simp] theorem State.awaitWrite_inbox : (s.awaitWrite).inbox = s.inbox := rfl

/-! `State.countWritten` -/

@[simp] theorem State.countWritten_cfg : (s.countWritten).cfg = s.cfg := rfl
@[simp] theorem State.countWritten_lcfg : (s.countWritten).lcfg = s.lcfg := rfl
@[simp] theorem State.countWritten_grid : (s.countWritten).grid = s.grid := rfl
@[simp] theorem State.countWritten_ctl : (s.countWritten).ctl = s.ctl := rfl
@[simp] theorem State.countWritten_errCode : (s.countWritten).errCode = s.errCode := rfl
@[simp] theorem State.countWritten_errDetail : (s.countWritten).errDetail = s.errDetail := rfl
@[simp] theorem State.countWritten_framesTotal : (s.countWritten).framesTotal = s.framesTotal := rfl
@[simp] theorem State.countWritten_framesWritten : (s.countWritten).framesWritten = s.framesWritten + 1 := rfl
@[simp] theorem State.countWritten_fq : (s.countWritten).fq = s.fq := rfl
@[simp] theorem State.countWritten_frameIdx : (s.countWritten).frameIdx = s.frameIdx + 1 := rfl
@[simp] theorem State.countWritten_pv : (s.countWritten).pv = s.pv := rfl
@[simp] theorem State.countWritten_seq : (s.countWritten).seq = s.seq := rfl
@[simp] theorem State.countWritten_crc : (s.countWritten).crc = s.crc := rfl
@[simp] theorem State.countWritten_chunkOff : (s.countWritten).chunkOff = s.chunkOff := rfl
@[simp] theorem State.countWritten_samples : (s.countWritten).samples = s.samples := rfl
@[simp] theorem State.countWritten_sb : (s.countWritten).sb = s.sb := rfl
@[simp] theorem State.countWritten_frame : (s.countWritten).frame = s.frame := rfl
@[simp] theorem State.countWritten_kiss : (s.countWritten).kiss = s.kiss := rfl
@[simp] theorem State.countWritten_sink : (s.countWritten).sink = s.sink := rfl
@[simp] theorem State.countWritten_replies : (s.countWritten).replies = s.replies := rfl
@[simp] theorem State.countWritten_inbox : (s.countWritten).inbox = s.inbox := rfl

/-! `State.raiseError` -/

@[simp] theorem State.raiseError_cfg (code : ErrCode) (detail : ErrDetail) : (s.raiseError code detail).cfg = s.cfg := rfl
@[simp] theorem State.raiseError_lcfg (code : ErrCode) (detail : ErrDetail) : (s.raiseError code detail).lcfg = s.lcfg := rfl
@[simp] theorem State.raiseError_grid (code : ErrCode) (detail : ErrDetail) : (s.raiseError code detail).grid = s.grid := rfl
@[simp] theorem State.raiseError_ctl (code : ErrCode) (detail : ErrDetail) : (s.raiseError code detail).ctl = .error := rfl
@[simp] theorem State.raiseError_errCode (code : ErrCode) (detail : ErrDetail) : (s.raiseError code detail).errCode = code := rfl
@[simp] theorem State.raiseError_errDetail (code : ErrCode) (detail : ErrDetail) : (s.raiseError code detail).errDetail = detail := rfl
@[simp] theorem State.raiseError_framesTotal (code : ErrCode) (detail : ErrDetail) : (s.raiseError code detail).framesTotal = s.framesTotal := rfl
@[simp] theorem State.raiseError_framesWritten (code : ErrCode) (detail : ErrDetail) : (s.raiseError code detail).framesWritten = s.framesWritten := rfl
@[simp] theorem State.raiseError_fq (code : ErrCode) (detail : ErrDetail) : (s.raiseError code detail).fq = [] := rfl
@[simp] theorem State.raiseError_frameIdx (code : ErrCode) (detail : ErrDetail) : (s.raiseError code detail).frameIdx = s.frameIdx := rfl
@[simp] theorem State.raiseError_pv (code : ErrCode) (detail : ErrDetail) : (s.raiseError code detail).pv = s.pv := rfl
@[simp] theorem State.raiseError_seq (code : ErrCode) (detail : ErrDetail) : (s.raiseError code detail).seq = s.seq := rfl
@[simp] theorem State.raiseError_crc (code : ErrCode) (detail : ErrDetail) : (s.raiseError code detail).crc = s.crc := rfl
@[simp] theorem State.raiseError_chunkOff (code : ErrCode) (detail : ErrDetail) : (s.raiseError code detail).chunkOff = s.chunkOff := rfl
@[simp] theorem State.raiseError_samples (code : ErrCode) (detail : ErrDetail) : (s.raiseError code detail).samples = s.samples := rfl
@[simp] theorem State.raiseError_sb (code : ErrCode) (detail : ErrDetail) : (s.raiseError code detail).sb = s.sb := rfl
@[simp] theorem State.raiseError_frame (code : ErrCode) (detail : ErrDetail) : (s.raiseError code detail).frame = s.frame := rfl
@[simp] theorem State.raiseError_kiss (code : ErrCode) (detail : ErrDetail) : (s.raiseError code detail).kiss = s.kiss := rfl
@[simp] theorem State.raiseError_sink (code : ErrCode) (detail : ErrDetail) : (s.raiseError code detail).sink = s.sink := rfl
@[simp] theorem State.raiseError_replies (code : ErrCode) (detail : ErrDetail) : (s.raiseError code detail).replies = s.replies := rfl
@[simp] theorem State.raiseError_inbox (code : ErrCode) (detail : ErrDetail) : (s.raiseError code detail).inbox = s.inbox := rfl

/-! `State.clearStatus` -/

@[simp] theorem State.clearStatus_cfg : (s.clearStatus).cfg = s.cfg := rfl
@[simp] theorem State.clearStatus_lcfg : (s.clearStatus).lcfg = s.lcfg := rfl
@[simp] theorem State.clearStatus_grid : (s.clearStatus).grid = s.grid := rfl
@[simp] theorem State.clearStatus_ctl : (s.clearStatus).ctl = s.ctl := rfl
@[simp] theorem State.clearStatus_errCode : (s.clearStatus).errCode = .none := rfl
@[simp] theorem State.clearStatus_errDetail : (s.clearStatus).errDetail = .none := rfl
@[simp] theorem State.clearStatus_framesTotal : (s.clearStatus).framesTotal = 0 := rfl
@[simp] theorem State.clearStatus_framesWritten : (s.clearStatus).framesWritten = 0 := rfl
@[simp] theorem State.clearStatus_fq : (s.clearStatus).fq = [] := rfl
@[simp] theorem State.clearStatus_frameIdx : (s.clearStatus).frameIdx = 0 := rfl
@[simp] theorem State.clearStatus_pv : (s.clearStatus).pv = s.pv := rfl
@[simp] theorem State.clearStatus_seq : (s.clearStatus).seq = s.seq := rfl
@[simp] theorem State.clearStatus_crc : (s.clearStatus).crc = s.crc := rfl
@[simp] theorem State.clearStatus_chunkOff : (s.clearStatus).chunkOff = s.chunkOff := rfl
@[simp] theorem State.clearStatus_samples : (s.clearStatus).samples = s.samples := rfl
@[simp] theorem State.clearStatus_sb : (s.clearStatus).sb = s.sb := rfl
@[simp] theorem State.clearStatus_frame : (s.clearStatus).frame = s.frame := rfl
@[simp] theorem State.clearStatus_kiss : (s.clearStatus).kiss = s.kiss := rfl
@[simp] theorem State.clearStatus_sink : (s.clearStatus).sink = s.sink := rfl
@[simp] theorem State.clearStatus_replies : (s.clearStatus).replies = s.replies := rfl
@[simp] theorem State.clearStatus_inbox : (s.clearStatus).inbox = s.inbox := rfl

/-! `State.latch` -/

@[simp] theorem State.latch_cfg (g : PixelGrid) : (s.latch g).cfg = s.cfg := rfl
@[simp] theorem State.latch_lcfg (g : PixelGrid) : (s.latch g).lcfg = latchCfg s.cfg s.lcfg := rfl
@[simp] theorem State.latch_grid (g : PixelGrid) : (s.latch g).grid = g := rfl
@[simp] theorem State.latch_ctl (g : PixelGrid) : (s.latch g).ctl = s.ctl := rfl
@[simp] theorem State.latch_errCode (g : PixelGrid) : (s.latch g).errCode = s.errCode := rfl
@[simp] theorem State.latch_errDetail (g : PixelGrid) : (s.latch g).errDetail = s.errDetail := rfl
@[simp] theorem State.latch_framesTotal (g : PixelGrid) : (s.latch g).framesTotal = s.framesTotal := rfl
@[simp] theorem State.latch_framesWritten (g : PixelGrid) : (s.latch g).framesWritten = s.framesWritten := rfl
@[simp] theorem State.latch_fq (g : PixelGrid) : (s.latch g).fq = s.fq := rfl
@[simp] theorem State.latch_frameIdx (g : PixelGrid) : (s.latch g).frameIdx = s.frameIdx := rfl
@[simp] theorem State.latch_pv (g : PixelGrid) : (s.latch g).pv = s.pv := rfl
@[simp] theorem State.latch_seq (g : PixelGrid) : (s.latch g).seq = s.seq := rfl
@[simp] theorem State.latch_crc (g : PixelGrid) : (s.latch g).crc = s.crc := rfl
@[simp] theorem State.latch_chunkOff (g : PixelGrid) : (s.latch g).chunkOff = s.chunkOff := rfl
@[simp] theorem State.latch_samples (g : PixelGrid) : (s.latch g).samples = s.samples := rfl
@[simp] theorem State.latch_sb (g : PixelGrid) : (s.latch g).sb = s.sb := rfl
@[simp] theorem State.latch_frame (g : PixelGrid) : (s.latch g).frame = s.frame := rfl
@[simp] theorem State.latch_kiss (g : PixelGrid) : (s.latch g).kiss = s.kiss := rfl
@[simp] theorem State.latch_sink (g : PixelGrid) : (s.latch g).sink = s.sink := rfl
@[simp] theorem State.latch_replies (g : PixelGrid) : (s.latch g).replies = s.replies := rfl
@[simp] theorem State.latch_inbox (g : PixelGrid) : (s.latch g).inbox = s.inbox := rfl

/-! `State.resetKeeping` -/

@[simp] theorem State.resetKeeping_cfg : (s.resetKeeping).cfg = State.reset.cfg := rfl
@[simp] theorem State.resetKeeping_lcfg : (s.resetKeeping).lcfg = State.reset.lcfg := rfl
@[simp] theorem State.resetKeeping_grid : (s.resetKeeping).grid = State.reset.grid := rfl
@[simp] theorem State.resetKeeping_ctl : (s.resetKeeping).ctl = State.reset.ctl := rfl
@[simp] theorem State.resetKeeping_errCode : (s.resetKeeping).errCode = State.reset.errCode := rfl
@[simp] theorem State.resetKeeping_errDetail : (s.resetKeeping).errDetail = State.reset.errDetail := rfl
@[simp] theorem State.resetKeeping_framesTotal : (s.resetKeeping).framesTotal = State.reset.framesTotal := rfl
@[simp] theorem State.resetKeeping_framesWritten : (s.resetKeeping).framesWritten = State.reset.framesWritten := rfl
@[simp] theorem State.resetKeeping_fq : (s.resetKeeping).fq = State.reset.fq := rfl
@[simp] theorem State.resetKeeping_frameIdx : (s.resetKeeping).frameIdx = State.reset.frameIdx := rfl
@[simp] theorem State.resetKeeping_pv : (s.resetKeeping).pv = s.pv := rfl
@[simp] theorem State.resetKeeping_seq : (s.resetKeeping).seq = State.reset.seq := rfl
@[simp] theorem State.resetKeeping_crc : (s.resetKeeping).crc = State.reset.crc := rfl
@[simp] theorem State.resetKeeping_chunkOff : (s.resetKeeping).chunkOff = State.reset.chunkOff := rfl
@[simp] theorem State.resetKeeping_samples : (s.resetKeeping).samples = State.reset.samples := rfl
@[simp] theorem State.resetKeeping_sb : (s.resetKeeping).sb = State.reset.sb := rfl
@[simp] theorem State.resetKeeping_frame : (s.resetKeeping).frame = State.reset.frame := rfl
@[simp] theorem State.resetKeeping_kiss : (s.resetKeeping).kiss = State.reset.kiss := rfl
@[simp] theorem State.resetKeeping_sink : (s.resetKeeping).sink = s.sink := rfl
@[simp] theorem State.resetKeeping_replies : (s.resetKeeping).replies = s.replies := rfl
@[simp] theorem State.resetKeeping_inbox : (s.resetKeeping).inbox = s.inbox := rfl

end Sys2Proof.Machine
end

