-- ==== Sys2Proof/Laws/Datapath.lean ====
section
/-! SUPPORT. The frames of the sequencer's meanings: a segment, TONE_SAMPLE and SEQ_STEP write the sequencer registers and the sample
stream of a checked grid and rate, and nothing else (41_sstv_tone_sequencer.md R140, R141, R169). Cite these; do not unfold the
operations. -/

namespace Sys2Proof.Machine

variable (P : Params) (s : State) (out : SeqRegs × List Sample)

/-- The check of R141, in terms of the grid and the rate. -/
theorem State.unitChecked_iff : s.unitChecked = true ↔
    (s.grid.w = 320 ∧ s.grid.h = 256 ∧ s.grid.px.length = s.grid.w * s.grid.h) ∧
      1 ≤ s.lcfg.sampleRate.toNat ∧ s.lcfg.sampleRate.toNat ≤ 1000000 := by
  simp [State.unitChecked, gridLegal, rateLegal, Config.W, Config.H, and_assoc]

/-! `State.runUnit` -/

theorem State.runUnit_of_checked {s : State} (h : s.unitChecked = true) : s.runUnit out = s.withSeq out.1 out.2 := if_pos h

theorem State.runUnit_of_unchecked {s : State} (h : s.unitChecked = false) : s.runUnit out = s :=
  if_neg (by rw [h]; exact Bool.false_ne_true)

/-- Everything an instruction of the unit can do: it writes what it computes on a checked grid and a legal rate, and nothing
otherwise. -/
theorem State.runUnit_cases :
    (s.unitChecked = true ∧ s.runUnit out = s.withSeq out.1 out.2) ∨ (s.unitChecked = false ∧ s.runUnit out = s) := by
  cases h : s.unitChecked
  · exact .inr ⟨rfl, State.runUnit_of_unchecked out h⟩
  · exact .inl ⟨rfl, State.runUnit_of_checked out h⟩

@[simp] theorem State.runUnit_cfg : (s.runUnit out).cfg = s.cfg := by
  rcases s.runUnit_cases out with ⟨_, h⟩ | ⟨_, h⟩ <;> rw [h]
  rw [State.withSeq_cfg]
@[simp] theorem State.runUnit_lcfg : (s.runUnit out).lcfg = s.lcfg := by
  rcases s.runUnit_cases out with ⟨_, h⟩ | ⟨_, h⟩ <;> rw [h]
  rw [State.withSeq_lcfg]
@[simp] theorem State.runUnit_grid : (s.runUnit out).grid = s.grid := by
  rcases s.runUnit_cases out with ⟨_, h⟩ | ⟨_, h⟩ <;> rw [h]
  rw [State.withSeq_grid]
@[simp] theorem State.runUnit_ctl : (s.runUnit out).ctl = s.ctl := by
  rcases s.runUnit_cases out with ⟨_, h⟩ | ⟨_, h⟩ <;> rw [h]
  rw [State.withSeq_ctl]
@[simp] theorem State.runUnit_errCode : (s.runUnit out).errCode = s.errCode := by
  rcases s.runUnit_cases out with ⟨_, h⟩ | ⟨_, h⟩ <;> rw [h]
  rw [State.withSeq_errCode]
@[simp] theorem State.runUnit_errDetail : (s.runUnit out).errDetail = s.errDetail := by
  rcases s.runUnit_cases out with ⟨_, h⟩ | ⟨_, h⟩ <;> rw [h]
  rw [State.withSeq_errDetail]
@[simp] theorem State.runUnit_framesTotal : (s.runUnit out).framesTotal = s.framesTotal := by
  rcases s.runUnit_cases out with ⟨_, h⟩ | ⟨_, h⟩ <;> rw [h]
  rw [State.withSeq_framesTotal]
@[simp] theorem State.runUnit_framesWritten : (s.runUnit out).framesWritten = s.framesWritten := by
  rcases s.runUnit_cases out with ⟨_, h⟩ | ⟨_, h⟩ <;> rw [h]
  rw [State.withSeq_framesWritten]
@[simp] theorem State.runUnit_fq : (s.runUnit out).fq = s.fq := by
  rcases s.runUnit_cases out with ⟨_, h⟩ | ⟨_, h⟩ <;> rw [h]
  rw [State.withSeq_fq]
@[simp] theorem State.runUnit_frameIdx : (s.runUnit out).frameIdx = s.frameIdx := by
  rcases s.runUnit_cases out with ⟨_, h⟩ | ⟨_, h⟩ <;> rw [h]
  rw [State.withSeq_frameIdx]
@[simp] theorem State.runUnit_pv : (s.runUnit out).pv = s.pv := by
  rcases s.runUnit_cases out with ⟨_, h⟩ | ⟨_, h⟩ <;> rw [h]
  rw [State.withSeq_pv]
@[simp] theorem State.runUnit_crc : (s.runUnit out).crc = s.crc := by
  rcases s.runUnit_cases out with ⟨_, h⟩ | ⟨_, h⟩ <;> rw [h]
  rw [State.withSeq_crc]
@[simp] theorem State.runUnit_chunkOff : (s.runUnit out).chunkOff = s.chunkOff := by
  rcases s.runUnit_cases out with ⟨_, h⟩ | ⟨_, h⟩ <;> rw [h]
  rw [State.withSeq_chunkOff]
@[simp] theorem State.runUnit_sb : (s.runUnit out).sb = s.sb := by
  rcases s.runUnit_cases out with ⟨_, h⟩ | ⟨_, h⟩ <;> rw [h]
  rw [State.withSeq_sb]
@[simp] theorem State.runUnit_frame : (s.runUnit out).frame = s.frame := by
  rcases s.runUnit_cases out with ⟨_, h⟩ | ⟨_, h⟩ <;> rw [h]
  rw [State.withSeq_frame]
@[simp] theorem State.runUnit_kiss : (s.runUnit out).kiss = s.kiss := by
  rcases s.runUnit_cases out with ⟨_, h⟩ | ⟨_, h⟩ <;> rw [h]
  rw [State.withSeq_kiss]
@[simp] theorem State.runUnit_sink : (s.runUnit out).sink = s.sink := by
  rcases s.runUnit_cases out with ⟨_, h⟩ | ⟨_, h⟩ <;> rw [h]
  rw [State.withSeq_sink]
@[simp] theorem State.runUnit_replies : (s.runUnit out).replies = s.replies := by
  rcases s.runUnit_cases out with ⟨_, h⟩ | ⟨_, h⟩ <;> rw [h]
  rw [State.withSeq_replies]
@[simp] theorem State.runUnit_inbox : (s.runUnit out).inbox = s.inbox := by
  rcases s.runUnit_cases out with ⟨_, h⟩ | ⟨_, h⟩ <;> rw [h]
  rw [State.withSeq_inbox]

/-! The three kinds of meaning, each in terms of `State.runUnit`. -/

@[simp] theorem runSegment_eq (sg : Segment) : runSegment P sg s
    = s.runUnit (segRun P s.lcfg.sampleRate.toNat (segTone sg) s.seq s.samples) := rfl

@[simp] theorem runToneSample_eq : runToneSample P s
    = s.runUnit (toneStep P s.seq, s.samples ++ [sineSample P s.seq.phase.toNat]) := rfl

@[simp] theorem runSeqStep_eq : runSeqStep P s = s.runUnit (seqWalk P s.lcfg.sampleRate.toNat s.grid s.seq) := rfl

end Sys2Proof.Machine
end

