-- ==== Sys2Proof/Laws/Sequencer.lean ====
section
/-! SUPPORT. What the sequencer's operations do: the boundaries of segments in samples (41_sstv_tone_sequencer.md R158), the
phase increment (R160), a run of TONE_SAMPLE (R161), a segment, and the loop over a list of segments (R164). -/

namespace Sys2Proof.Machine

/-! Boundaries. -/

/-- `ceilDiv n d` is the least natural number whose `d`-fold reaches `n`. -/
theorem ceilDiv_le_iff {d : Nat} (hd : 0 < d) (n k : Nat) : ceilDiv n d ≤ k ↔ n ≤ k * d := by
  have hdiv := Nat.div_add_mod' n d
  have hlt := Nat.mod_lt n hd
  unfold ceilDiv
  split
  · next h =>
    rw [h, Nat.add_zero] at hdiv
    rw [← Nat.mul_le_mul_right_iff hd, hdiv]
  · next h =>
    constructor
    · intro hk
      have := Nat.mul_le_mul_right d hk
      rw [Nat.succ_mul] at this
      omega
    · intro hk
      by_contra hc
      have := Nat.mul_le_mul_right d (Nat.lt_succ_iff.1 (not_le.1 hc))
      omega

/-- Sample `n` lies at or after the boundary of time `t` exactly where its instant `n × 10^9 / fs` is `t` or later. -/
theorem sampleAt_le_iff (fs t n : Nat) : sampleAt fs t ≤ n ↔ t * fs ≤ n * 1000000000 :=
  ceilDiv_le_iff (by norm_num) _ _

theorem sampleAt_mono (fs : Nat) {t u : Nat} (h : t ≤ u) : sampleAt fs t ≤ sampleAt fs u := by
  rw [sampleAt_le_iff]
  exact (Nat.mul_le_mul_right fs h).trans ((sampleAt_le_iff fs u _).1 le_rfl)

@[simp] theorem sampleAt_zero (fs : Nat) : sampleAt fs 0 = 0 :=
  Nat.le_zero.1 ((sampleAt_le_iff fs 0 0).2 (by simp))

/-! The increment. -/

theorem two_pow_phaseBits_pos (P : Params) : 0 < 2 ^ P.phaseBits := by positivity

theorem phaseBits_le (P : Params) : P.phaseBits ≤ 32 := by
  have := P.phaseExtra.isLt
  unfold Params.phaseBits
  omega

theorem two_pow_phaseBits_le (P : Params) : 2 ^ P.phaseBits ≤ 2 ^ 32 :=
  Nat.pow_le_pow_right (by norm_num) (phaseBits_le P)

theorem phaseInc_lt (P : Params) (fs : Nat) (t : Tone) : phaseInc P fs t < 2 ^ P.phaseBits :=
  Nat.mod_lt _ (two_pow_phaseBits_pos P)

/-- A `PHASE_BITS`-bit value fits the 32 bits it is held in. -/
theorem toNat_ofNat_of_phase {P : Params} {n : Nat} (h : n < 2 ^ P.phaseBits) : (BitVec.ofNat 32 n).toNat = n :=
  Nat.mod_eq_of_lt (h.trans_le (two_pow_phaseBits_le P))

theorem toNat_ofNat_mod_phase (P : Params) (n : Nat) :
    (BitVec.ofNat 32 (n % 2 ^ P.phaseBits)).toNat = n % 2 ^ P.phaseBits :=
  toNat_ofNat_of_phase (Nat.mod_lt _ (two_pow_phaseBits_pos P))

/-! Runs of TONE_SAMPLE. -/

/-- The registers after `k` samples: the phase has advanced by `k` increments, the sample index by `k`. -/
def afterTones (P : Params) (k : Nat) (r : SeqRegs) : SeqRegs :=
  { r with
    phase := BitVec.ofNat 32 ((r.phase.toNat + k * r.inc.toNat) % 2 ^ P.phaseBits)
    sampleIdx := r.sampleIdx + BitVec.ofNat 32 k }

/-- The samples of `k` steps from a phase. -/
def toneSamples (P : Params) (phase inc k : Nat) : List Sample :=
  (List.range k).map fun j => sineSample P ((phase + j * inc) % 2 ^ P.phaseBits)

/-- Everything `toneRun` does. -/
theorem toneRun_eq (P : Params) (k : Nat) : ∀ (r : SeqRegs) (xs : List Sample), r.phase.toNat < 2 ^ P.phaseBits →
    toneRun P k r xs = (afterTones P k r, xs ++ toneSamples P r.phase.toNat r.inc.toNat k) := by
  induction k with
  | zero =>
    intro r xs h
    simp [toneRun, afterTones, toneSamples, Nat.mod_eq_of_lt h]
  | succ k ih =>
    intro r xs h
    have hph : (toneStep P r).phase.toNat = (r.phase.toNat + r.inc.toNat) % 2 ^ P.phaseBits :=
      toNat_ofNat_mod_phase P _
    have hinc : (toneStep P r).inc = r.inc := rfl
    rw [toneRun, ih _ _ (hph ▸ Nat.mod_lt _ (two_pow_phaseBits_pos P))]
    refine Prod.ext ?_ ?_
    · have hs : (toneStep P r).sampleIdx + BitVec.ofNat 32 k = r.sampleIdx + BitVec.ofNat 32 (k + 1) := by
        show r.sampleIdx + 1 + BitVec.ofNat 32 k = _
        rw [BitVec.add_assoc, BitVec.ofNat_add, BitVec.add_comm (BitVec.ofNat 32 k)]
        rfl
      simp only [afterTones, hs, hph, hinc, Nat.mod_add_mod]
      rw [show r.phase.toNat + r.inc.toNat + k * r.inc.toNat = r.phase.toNat + (k + 1) * r.inc.toNat by ring]
      rfl
    · simp only [toneSamples, List.range_succ_eq_map, List.map_cons, List.map_map, List.append_assoc, hph, hinc,
        Nat.zero_mul, Nat.add_zero, Nat.mod_eq_of_lt h, List.cons_append, List.nil_append]
      congr 2
      refine List.map_congr_left fun j _ => ?_
      simp only [Function.comp, Nat.mod_add_mod]
      rw [show r.phase.toNat + r.inc.toNat + j * r.inc.toNat = r.phase.toNat + (j + 1) * r.inc.toNat by ring]

/-! Segments. -/

/-- The number of samples a segment emits. -/
def segCount (fs : Nat) (t : Tone) (r : SeqRegs) : Nat :=
  (BitVec.ofNat 32 (sampleAt fs (r.tNs.toNat + t.dur))).toNat - r.sampleIdx.toNat

/-- Everything a segment does (R158, R161, R164). -/
theorem segRun_eq (P : Params) (fs : Nat) (t : Tone) (r : SeqRegs) (xs : List Sample)
    (h : r.phase.toNat < 2 ^ P.phaseBits) :
    segRun P fs t r xs =
      ({ segIdx := r.segIdx + 1
         sampleIdx := r.sampleIdx + BitVec.ofNat 32 (segCount fs t r)
         segEnd := BitVec.ofNat 32 (sampleAt fs (r.tNs.toNat + t.dur))
         phase := BitVec.ofNat 32 ((r.phase.toNat + segCount fs t r * phaseInc P fs t) % 2 ^ P.phaseBits)
         inc := BitVec.ofNat 32 (phaseInc P fs t)
         tNs := BitVec.ofNat 37 (r.tNs.toNat + t.dur) },
        xs ++ toneSamples P r.phase.toNat (phaseInc P fs t) (segCount fs t r)) := by
  have hi : (segLoad P fs t r).inc.toNat = phaseInc P fs t := toNat_ofNat_of_phase (phaseInc_lt P fs t)
  have hp : (segLoad P fs t r).phase = r.phase := rfl
  show (segDone t (toneRun P (segCount fs t r) (segLoad P fs t r) xs).1,
    (toneRun P (segCount fs t r) (segLoad P fs t r) xs).2) = _
  rw [toneRun_eq P _ (segLoad P fs t r) xs h, afterTones, hi, hp]
  rfl

/-- The phase and the increment stay `PHASE_BITS` bits wide. -/
theorem segRun_fits (P : Params) (fs : Nat) (t : Tone) (r : SeqRegs) (xs : List Sample)
    (h : r.phase.toNat < 2 ^ P.phaseBits) :
    (segRun P fs t r xs).1.phase.toNat < 2 ^ P.phaseBits ∧ (segRun P fs t r xs).1.inc.toNat < 2 ^ P.phaseBits := by
  rw [segRun_eq P fs t r xs h]
  exact ⟨by rw [toNat_ofNat_mod_phase]; exact Nat.mod_lt _ (two_pow_phaseBits_pos P),
    by rw [toNat_ofNat_of_phase (phaseInc_lt P fs t)]; exact phaseInc_lt P fs t⟩

/-! The loop. -/

theorem segLoop_fits (P : Params) (fs : Nat) : ∀ (segs : List Segment) (r : SeqRegs) (xs : List Sample),
    r.phase.toNat < 2 ^ P.phaseBits → r.inc.toNat < 2 ^ P.phaseBits →
    (segLoop P fs segs r xs).1.phase.toNat < 2 ^ P.phaseBits ∧ (segLoop P fs segs r xs).1.inc.toNat < 2 ^ P.phaseBits
  | [], _, _, h, hi => ⟨h, hi⟩
  | sg :: rest, r, xs, h, _ => by
    have hf := segRun_fits P fs (segTone sg) r xs h
    exact segLoop_fits P fs rest _ _ hf.1 hf.2

@[simp] theorem totalDur_nil : totalDur [] = 0 := rfl

@[simp] theorem totalDur_cons (sg : Segment) (rest : List Segment) :
    totalDur (sg :: rest) = (segTone sg).dur + totalDur rest := by simp [totalDur]

@[simp] theorem totalDur_append (a b : List Segment) : totalDur (a ++ b) = totalDur a + totalDur b := by
  simp [totalDur]

/-- The samples of a list of increments from a phase. -/
def incSamples (P : Params) (phase : Nat) (incs : List Nat) : List Sample :=
  (List.range incs.length).map fun n => sineSample P ((phase + (incs.take n).sum) % 2 ^ P.phaseBits)

theorem incSamples_replicate_append (P : Params) (phase inc k : Nat) (incs : List Nat) :
    incSamples P phase (List.replicate k inc ++ incs)
      = toneSamples P phase inc k ++ incSamples P ((phase + k * inc) % 2 ^ P.phaseBits) incs := by
  simp only [incSamples, toneSamples, List.length_append, List.length_replicate, List.range_add, List.map_append, List.map_map]
  congr 1
  · refine List.map_congr_left fun j hj => ?_
    have hj : j ≤ k := (List.mem_range.1 hj).le
    simp [List.take_append_of_le_length, hj]
  · refine List.map_congr_left fun j _ => ?_
    simp only [Function.comp, List.take_append, List.length_replicate, List.sum_append, Nat.mod_add_mod,
      List.take_replicate, List.sum_replicate, smul_eq_mul, Nat.add_sub_cancel_left]
    rw [Nat.min_eq_right (Nat.le_add_right k j), Nat.add_assoc]

/-- Everything R164's loop does, from registers that stand at time `t`, as long as the registers' widths hold the values. -/
theorem segLoop_spec (P : Params) (fs : Nat) : ∀ (segs : List Segment) (r : SeqRegs) (xs : List Sample),
    r.phase.toNat < 2 ^ P.phaseBits → r.sampleIdx.toNat = sampleAt fs r.tNs.toNat →
    r.tNs.toNat + totalDur segs < 2 ^ 37 → sampleAt fs (r.tNs.toNat + totalDur segs) < 2 ^ 32 →
    (segLoop P fs segs r xs).2 = xs ++ incSamples P r.phase.toNat (sampleIncs P fs r.tNs.toNat segs) ∧
    (segLoop P fs segs r xs).1.tNs.toNat = r.tNs.toNat + totalDur segs ∧
    (segLoop P fs segs r xs).1.sampleIdx.toNat = sampleAt fs (r.tNs.toNat + totalDur segs) ∧
    (segLoop P fs segs r xs).1.phase.toNat
      = (r.phase.toNat + (sampleIncs P fs r.tNs.toNat segs).sum) % 2 ^ P.phaseBits ∧
    (segLoop P fs segs r xs).1.segIdx = r.segIdx + BitVec.ofNat 18 segs.length
  | [], r, xs, hp, hs, _, _ => by
    simp [segLoop, sampleIncs, incSamples, hs, Nat.mod_eq_of_lt hp]
  | sg :: rest, r, xs, hp, hs, ht, hn => by
    simp only [totalDur_cons] at ht hn
    rw [← Nat.add_assoc] at ht hn
    have hmono := sampleAt_mono fs (Nat.le_add_right (r.tNs.toNat + (segTone sg).dur) (totalDur rest))
    have hend : (BitVec.ofNat 32 (sampleAt fs (r.tNs.toNat + (segTone sg).dur))).toNat
        = sampleAt fs (r.tNs.toNat + (segTone sg).dur) := Nat.mod_eq_of_lt (hmono.trans_lt hn)
    have hcount : segCount fs (segTone sg) r
        = sampleAt fs (r.tNs.toNat + (segTone sg).dur) - sampleAt fs r.tNs.toNat := by rw [segCount, hend, hs]
    have hle := sampleAt_mono fs (Nat.le_add_right r.tNs.toNat (segTone sg).dur)
    have hrun := segRun_eq P fs (segTone sg) r xs hp
    generalize hr1 : (segRun P fs (segTone sg) r xs).1 = r1 at *
    have e1 : r1.tNs.toNat = r.tNs.toNat + (segTone sg).dur := by
      rw [← hr1, hrun]; exact Nat.mod_eq_of_lt (by omega)
    have e2 : r1.sampleIdx.toNat = sampleAt fs r1.tNs.toNat := by
      rw [e1, ← hr1, hrun]
      show (r.sampleIdx + BitVec.ofNat 32 (segCount fs (segTone sg) r)).toNat = _
      rw [BitVec.toNat_add, BitVec.toNat_ofNat, hcount, hs, Nat.mod_eq_of_lt (a := _ - _) (by omega),
        Nat.mod_eq_of_lt (by omega)]
      omega
    have e3 : r1.phase.toNat
        = (r.phase.toNat + segCount fs (segTone sg) r * phaseInc P fs (segTone sg)) % 2 ^ P.phaseBits := by
      rw [← hr1, hrun]; exact toNat_ofNat_mod_phase P _
    have e4 : r1.segIdx = r.segIdx + 1 := by rw [← hr1, hrun]
    have hx : (segRun P fs (segTone sg) r xs).2
        = xs ++ toneSamples P r.phase.toNat (phaseInc P fs (segTone sg)) (segCount fs (segTone sg) r) := by rw [hrun]
    have hp1 : r1.phase.toNat < 2 ^ P.phaseBits := by rw [e3]; exact Nat.mod_lt _ (two_pow_phaseBits_pos P)
    obtain ⟨i1, i2, i3, i4, i5⟩ := segLoop_spec P fs rest r1 (segRun P fs (segTone sg) r xs).2 hp1 e2
      (by rw [e1]; exact ht) (by rw [e1]; exact hn)
    simp only [segLoop, hr1, sampleIncs, ← hcount, totalDur_cons]
    refine ⟨?_, ?_, ?_, ?_, ?_⟩
    · rw [i1, hx, incSamples_replicate_append, List.append_assoc, ← e3, e1]
    · rw [i2, e1, Nat.add_assoc]
    · rw [i3, e1, Nat.add_assoc]
    · rw [i4, e3, e1]
      simp only [Nat.mod_add_mod, List.sum_append, List.sum_replicate, smul_eq_mul, Nat.add_assoc]
    · rw [i5, e4, BitVec.add_assoc, List.length_cons, Nat.add_comm, BitVec.ofNat_add]
      rfl

/-- A list of segments from time `t` has as many samples as its boundaries leave between them (R158). -/
theorem sampleIncs_length (P : Params) (fs : Nat) : ∀ (segs : List Segment) (t : Nat),
    (sampleIncs P fs t segs).length = sampleAt fs (t + totalDur segs) - sampleAt fs t
  | [], t => by simp [sampleIncs]
  | sg :: rest, t => by
    have h1 := sampleAt_mono fs (Nat.le_add_right t (segTone sg).dur)
    have h2 := sampleAt_mono fs (Nat.le_add_right (t + (segTone sg).dur) (totalDur rest))
    simp only [sampleIncs, List.length_append, List.length_replicate, sampleIncs_length, totalDur_cons, ← Nat.add_assoc]
    omega

/-! The schedule. -/

/-- Segments of one duration. -/
theorem totalDur_map_const {α : Type} (f : α → Segment) (d : Nat) (l : List α) (h : ∀ a, (segTone (f a)).dur = d) :
    totalDur (l.map f) = l.length * d := by
  induction l with
  | nil => simp
  | cons a l ih => simp [ih, h, Nat.succ_mul, Nat.add_comm]

theorem totalDur_scanOf (g : PixelGrid) (y : Nat) (slot : Pixel → Segment) (h : ∀ p, (segTone (slot p)).dur = 457600) :
    totalDur (scanOf g y slot) = 146432000 := by
  rw [scanOf, totalDur_map_const _ 457600 _ fun _ => h _]
  simp [Config.W]

/-- A scan line lasts 446 446 000 ns (30_encoding.md R95). -/
theorem totalDur_scanLine (g : PixelGrid) (y : Nat) : totalDur (scanLine g y) = 446446000 := by
  have hg := totalDur_scanOf g y (fun p => .pixG p.g) fun _ => rfl
  have hb := totalDur_scanOf g y (fun p => .pixB p.b) fun _ => rfl
  have hr := totalDur_scanOf g y (fun p => .pixR p.r) fun _ => rfl
  simp [scanLine, hg, hb, hr, segTone]

theorem totalDur_flatMap_const {α : Type} (f : α → List Segment) (d : Nat) (l : List α) (h : ∀ a, totalDur (f a) = d) :
    totalDur (l.flatMap f) = l.length * d := by
  induction l with
  | nil => simp
  | cons a l ih => simp [ih, h, Nat.succ_mul, Nat.add_comm]

theorem totalDur_visHeader (P : Params) : totalDur (visHeader P) = 700000000 + P.visDataBits * 30000000 := by
  have : totalDur ((visBits P).map Segment.visBit) = P.visDataBits * 30000000 := by
    rw [totalDur_map_const _ 30000000 _ fun _ => rfl]
    simp [visBits]
  simp only [visHeader, totalDur_append, this, totalDur_cons, totalDur_nil, segTone, visCell]
  omega

/-- The schedule lasts `T_TOTAL` (41_sstv_tone_sequencer.md R159). -/
theorem totalDur_schedule (P : Params) (g : PixelGrid) : totalDur (schedule P g) = totalNs P := by
  rw [schedule, totalDur_append, totalDur_visHeader, totalDur_flatMap_const _ 446446000 _ fun _ => totalDur_scanLine g _]
  simp only [totalNs, Params.visDataBits, Config.H, List.length_range]
  split <;> rfl

/-- At a legal rate the whole stream fits the registers. -/
theorem sampleCount_lt {fs : Nat} (P : Params) (h : rateLegal fs = true) : sampleCount P fs ≤ 115230176 := by
  have hfs : fs ≤ 1000000 := by simp [rateLegal] at h; exact h.2
  rw [sampleCount, sampleAt_le_iff]
  have : totalNs P ≤ 115230176000 := by unfold totalNs; split <;> omega
  calc totalNs P * fs ≤ 115230176000 * 1000000 := Nat.mul_le_mul this hfs
    _ = 115230176 * 1000000000 := by norm_num

end Sys2Proof.Machine
end

