-- ==== Sys2Proof/Laws/Framer.lean ====
section
/-! SUPPORT. What the framer's operations do: the bytes of a 16-bit value, the length of the header, the cut into chunks
(42_ax25_framer.md R201 to R215). -/

namespace Sys2Proof.Machine

/-! Bytes of a 16-bit value. -/

@[simp] theorem lowByte_toNat (v : BitVec 16) : (lowByte v).toNat = v.toNat % 256 := by simp [lowByte]

@[simp] theorem highByte_toNat (v : BitVec 16) : (highByte v).toNat = v.toNat / 256 := by
  have := v.isLt
  simp only [highByte, BitVec.toNat_setWidth, BitVec.toNat_ushiftRight, Nat.shiftRight_eq_div_pow]
  omega

@[simp] theorem word16_toNat (hi lo : Byte) : (word16 hi lo).toNat = hi.toNat * 256 + lo.toNat := by
  rw [word16, BitVec.toNat_append, ← Nat.shiftLeft_add_eq_or_of_lt lo.isLt, Nat.shiftLeft_eq]

/-- The complement of R212 as a number. -/
@[simp] theorem fcsOf_toNat (c : BitVec 16) : (fcsOf c).toNat = 65535 - c.toNat := by
  rw [fcsOf, show (0xFFFF#16) = BitVec.allOnes 16 from rfl, BitVec.xor_allOnes, BitVec.toNat_not]

/-! The header. -/

theorem padCall_length {c : Bytes} (h : c.length ≤ 6) : (padCall c).length = 6 := by
  simp only [padCall, List.length_append, List.length_replicate]
  omega

theorem callField_length {c : Bytes} (h : c.length ≤ 6) : (callField c).length = 6 := by
  rw [callField, List.length_map, padCall_length h]

theorem header_length {lc : ConfigValues} (hd : lc.dstCall.length ≤ 6) (hs : lc.srcCall.length ≤ 6) :
    (header lc).length = 16 := by
  simp [header, callField_length hd, callField_length hs]

/-! Chunks. -/

theorem lt_ceilDiv_iff {m : Nat} (hm : 0 < m) (n i : Nat) : i < ceilDiv n m ↔ i * m < n := by
  rw [← not_le, ceilDiv_le_iff hm, not_le]

theorem chunks_length (m : Nat) (sb : Bytes) : (chunks m sb).length = ceilDiv sb.length m := by simp [chunks]

/-- The first `k` chunks are the first `k × M` bytes. -/
theorem flatten_slices (m : Nat) (sb : Bytes) (k : Nat) :
    ((List.range k).map fun i => (sb.drop (i * m)).take m).flatten = sb.take (k * m) := by
  induction k with
  | zero => simp
  | succ k ih => simp [List.range_succ, ih, Nat.succ_mul, List.take_add]

theorem chunks_flatten {m : Nat} (hm : 0 < m) (sb : Bytes) : (chunks m sb).flatten = sb := by
  rw [chunks, flatten_slices, List.take_of_length_le ((ceilDiv_le_iff hm _ _).1 le_rfl)]

theorem ax25_length (lc : ConfigValues) (sb : Bytes) : (ax25 lc sb).length = ceilDiv sb.length lc.maxPayload.toNat := by
  rw [ax25, List.length_map, chunks_length]

theorem ax25Frame_length (hdr c : Bytes) : (ax25Frame hdr c).length = hdr.length + c.length + 2 := by
  simp [ax25Frame, Nat.add_assoc]

theorem serialStream_length (xs : List Sample) : (serialStream xs).length = 2 * xs.length := by
  induction xs with
  | nil => rfl
  | cons x xs ih =>
    simp only [serialStream, List.flatMap_cons, List.length_append] at ih ⊢
    rw [ih]
    simp [serialSample]
    omega

/-! The FCS register. -/

@[simp] theorem crcOver_nil : crcOver [] = crcInit := rfl

theorem crcOver_append_singleton (b : Bytes) (d : Byte) : crcOver (b ++ [d]) = crcUpdate (crcOver b) d := by
  simp [crcOver]

end Sys2Proof.Machine
end

