-- ==== Sys2Proof/Laws/Kiss.lean ====
section
/-! SUPPORT. What ESC and the reference decoder's loop do to one byte (43_kiss_encoder.md R257, R260). -/

namespace Sys2Proof.Machine

/-- ESC never outputs a FEND (R258). -/
theorem fend_not_mem_kissEsc (d : Byte) : fend ∉ kissEsc d := by
  unfold kissEsc
  split
  · decide
  · split
    · decide
    · next h _ => simpa [eq_comm] using h

/-- ESC outputs one byte, or two for a FEND or an FESC (R259). -/
theorem kissEsc_length (d : Byte) : (kissEsc d).length = if d = fend ∨ d = fesc then 2 else 1 := by
  unfold kissEsc
  by_cases h : d = fend
  · simp [h, escFend]
  · by_cases h' : d = fesc
    · simp only [h', if_neg (show ¬fesc = fend by decide), escFesc]
      decide
    · simp [h, h']

/-- The decoder's loop takes back one escaped byte. -/
theorem unescape_kissEsc_append (d : Byte) (rest : Bytes) :
    unescape (kissEsc d ++ rest) = (unescape rest).map (d :: ·) := by
  unfold kissEsc
  split
  · next h => subst h; simp [escFend, unescape, fend, fesc, tfend]
  · split
    · next _ h => subst h; simp [escFesc, unescape, fend, fesc, tfend, tfesc]
    · next h h' =>
      cases rest with
      | nil => simp [unescape, h, h']
      | cons e rest => simp [unescape, h, h']

theorem kissFrame_length (raw : Bytes) : (kissFrame raw).length = 3 + (raw.flatMap kissEsc).length := by
  simp only [kissFrame, List.length_append, List.length_cons, List.length_nil]
  omega

end Sys2Proof.Machine
end

