-- ==== Sys2Proof/Laws/Control.lean ====
section
/-! SUPPORT. Everything the controller's operations and a step can do (44_cycle_control.md R280 to R293), one lemma each. -/

namespace Sys2Proof.Machine

/-! The checks of START. -/

/-- No register is UNSET exactly when all six set bits are 1. -/
theorem firstUnset_eq_none_iff (c : ConfigRegs) : firstUnset c = none ↔
    c.dstCall.set = true ∧ c.dstSsid.set = true ∧ c.srcCall.set = true ∧ c.srcSsid.set = true ∧
      c.maxPayload.set = true ∧ c.sampleRate.set = true := by
  unfold firstUnset
  repeat' split
  all_goals simp_all

/-- With every register set, START latches the values of `cfg`, whatever was latched before. -/
theorem latchCfg_of_set {c : ConfigRegs} (h : firstUnset c = none) (old : ConfigValues) :
    latchCfg c old =
      { dstCall := c.dstCall.value
        dstSsid := c.dstSsid.value
        srcCall := c.srcCall.value
        srcSsid := c.srcSsid.value
        maxPayload := c.maxPayload.value
        sampleRate := c.sampleRate.value } := by
  obtain ⟨h0, h1, h2, h3, h4, h5⟩ := (firstUnset_eq_none_iff c).1 h
  simp [latchCfg, latchReg, h0, h1, h2, h3, h4, h5]

/-- What a START that passes its checks knows (60_exceptions.md R332 to R335). -/
theorem validate_eq_none_iff (c : ConfigRegs) (g : PixelGrid) : validate c g = none ↔
    firstUnset c = none ∧ c.maxPayload.value.toNat ≠ 0 ∧ rateLegal c.sampleRate.value.toNat = true ∧
      gridLegal g = true ∧ callCheck c.dstCall.value c.dstSsid.value = none ∧
      callCheck c.srcCall.value c.srcSsid.value = none := by
  unfold validate validateGridAndCalls
  repeat' split
  all_goals simp_all

/-- A callsign that passes CALLCHECK has at most 6 characters. -/
theorem length_of_callCheck {c : Bytes} {ssid : BitVec 8} (h : callCheck c ssid = none) : c.length ≤ 6 := by
  unfold callCheck at h
  split at h
  · cases h
  · omega

/-- An error of VALIDATE carries the detail of its code. -/
theorem errMatches_of_validate {c : ConfigRegs} {g : PixelGrid} {code : ErrCode} {detail : ErrDetail}
    (h : validate c g = some { code := code, detail := detail }) :
    (code = .invalidConfiguration ∧ ∃ k r, detail = .cfg k r) ∨
      (code = .invalidDimensions ∧ detail = .dim g.w g.h g.px.length) ∨
      (code = .invalidCallsign ∧ ∃ which r, detail = .call which r) := by
  unfold validate validateGridAndCalls at h
  repeat' split at h
  all_goals cases h
  all_goals simp

/-! Writes. -/

theorem issueWrite_eq_next_iff (s t : State) :
    issueWrite s = .next t ↔ ∃ b, s.fq[s.frameIdx.toNat]? = some b ∧ t = s.sinkWrite b := by
  unfold issueWrite
  rcases s.fq[s.frameIdx.toNat]? with _ | b <;> simp [eq_comm]

theorem issueWrite_of_lt (s : State) (h : s.frameIdx.toNat < s.fq.length) :
    issueWrite s = .next (s.sinkWrite s.fq[s.frameIdx.toNat]) := by
  simp [issueWrite, h]

/-- The end of START: nothing to write, or the first frame is handed over. -/
theorem beginWrites_cases {s t : State} (h : beginWrites s = .next t) :
    (s.framesTotal = 0 ∧ t = s.complete) ∨
      (s.framesTotal ≠ 0 ∧ ∃ b, s.fq[s.frameIdx.toNat]? = some b ∧ t = s.awaitWrite.sinkWrite b) := by
  unfold beginWrites at h
  split at h
  · next h0 => cases h; exact .inl ⟨h0, rfl⟩
  · next h0 =>
    obtain ⟨b, hb, rfl⟩ := (issueWrite_eq_next_iff _ _).1 h
    exact .inr ⟨h0, b, hb, rfl⟩

/-- From the first frame of a queue that `FRAMES_TOTAL` counts, START's end always answers. -/
theorem beginWrites_isNext {s : State} (h0 : s.frameIdx = 0) (hq : s.framesTotal = BitVec.ofNat 32 s.fq.length) :
    ∃ t, beginWrites s = .next t := by
  unfold beginWrites
  split
  · exact ⟨_, rfl⟩
  · next h =>
    have hlt : s.awaitWrite.frameIdx.toNat < s.awaitWrite.fq.length := by
      rcases hl : s.fq with _ | ⟨b, l⟩
      · simp [hq, hl] at h
      · simp [h0, hl]
    exact ⟨_, issueWrite_of_lt _ hlt⟩

/-- Everything WRITE_OK can do. -/
theorem execWriteOk_cases {s t : State} (h : execWriteOk s = .next t) :
    (s.ctl ≠ .waitWrite ∧ t = s.markPv) ∨
      (s.ctl = .waitWrite ∧ s.frameIdx + 1 = s.framesTotal ∧ t = s.countWritten.complete) ∨
      (s.ctl = .waitWrite ∧ s.frameIdx + 1 ≠ s.framesTotal ∧
        ∃ b, s.fq[(s.frameIdx + 1).toNat]? = some b ∧ t = s.countWritten.sinkWrite b) := by
  unfold execWriteOk at h
  split at h
  · next hw =>
    split at h
    · next hl => cases h; exact .inr (.inl ⟨hw, hl, rfl⟩)
    · next hl =>
      obtain ⟨b, hb, rfl⟩ := (issueWrite_eq_next_iff _ _).1 h
      exact .inr (.inr ⟨hw, hl, b, hb, rfl⟩)
  · next hw => cases h; exact .inl ⟨hw, rfl⟩

/-! START. -/

/-- Everything START can do. -/
theorem startTxn_cases {P : Params} {g : PixelGrid} {s t : State} (h : startTxn P g s = .next t) :
    (s.ctl = .waitWrite ∧ t = s.markPv) ∨
      (s.ctl ≠ .waitWrite ∧ ∃ e, validate s.cfg g = some e ∧ t = ((s.latch g).clearStatus).raiseError e.code e.detail) ∨
      (s.ctl ≠ .waitWrite ∧ validate s.cfg g = none ∧
        beginWrites (computeFrames P (s.latch g).clearStatus) = .next t) := by
  unfold startTxn at h
  split at h
  · next hw => cases h; exact .inl ⟨hw, rfl⟩
  · next hw =>
    simp only [startCycle] at h
    split at h
    · next e he => cases h; exact .inr (.inl ⟨hw, e, he, rfl⟩)
    · next he => exact .inr (.inr ⟨hw, he, h⟩)

section
variable (P : Params) (s : State)

@[simp] theorem computeFrames_cfg : (computeFrames P s).cfg = s.cfg := by simp [computeFrames]
@[simp] theorem computeFrames_lcfg : (computeFrames P s).lcfg = s.lcfg := by simp [computeFrames]
@[simp] theorem computeFrames_grid : (computeFrames P s).grid = s.grid := by simp [computeFrames]
@[simp] theorem computeFrames_ctl : (computeFrames P s).ctl = s.ctl := by simp [computeFrames]
@[simp] theorem computeFrames_errCode : (computeFrames P s).errCode = s.errCode := by simp [computeFrames]
@[simp] theorem computeFrames_errDetail : (computeFrames P s).errDetail = s.errDetail := by simp [computeFrames]
@[simp] theorem computeFrames_framesWritten : (computeFrames P s).framesWritten = s.framesWritten := by simp [computeFrames]
@[simp] theorem computeFrames_frameIdx : (computeFrames P s).frameIdx = s.frameIdx := by simp [computeFrames]
@[simp] theorem computeFrames_pv : (computeFrames P s).pv = s.pv := by simp [computeFrames]
@[simp] theorem computeFrames_sink : (computeFrames P s).sink = s.sink := by simp [computeFrames]
@[simp] theorem computeFrames_replies : (computeFrames P s).replies = s.replies := by simp [computeFrames]
@[simp] theorem computeFrames_inbox : (computeFrames P s).inbox = s.inbox := by simp [computeFrames]
@[simp] theorem computeFrames_seq :
    (computeFrames P s).seq = (seqWalk P s.lcfg.sampleRate.toNat s.grid s.seq).1 := by simp [computeFrames]
@[simp] theorem computeFrames_fq : (computeFrames P s).fq
    = framesOf s.lcfg (serialStream (seqWalk P s.lcfg.sampleRate.toNat s.grid s.seq).2) := by simp [computeFrames]
@[simp] theorem computeFrames_framesTotal :
    (computeFrames P s).framesTotal = BitVec.ofNat 32 (computeFrames P s).fq.length := by simp [computeFrames]

end

/-! The step. -/

/-- An item that is no instruction marks a protocol violation, or the step is refused. -/
theorem onReject_cases {r : Reject} {s t : State} (h : onReject r s = .next t) :
    (r = .reservedHostCode ∨ r = .blockCodeFromHost) ∧ t = s.markPv := by
  cases r <;> simp_all [onReject, eq_comm]

/-- Everything a step can do. -/
theorem step_cases {s t : State} (h : step s = .next t) :
    (s.inbox = [] ∧ t = s) ∨
      ∃ it rest, s.inbox = it :: rest ∧
        ((∃ i, decode it = .ok i ∧ exec i (s.withInbox rest) = .next t) ∨
          (∃ r, decode it = .reject r ∧ t = (s.withInbox rest).markPv)) := by
  unfold step fetchNext at h
  rcases hi : s.inbox with _ | ⟨it, rest⟩
  · simp only [hi] at h
    cases h
    exact .inl ⟨rfl, rfl⟩
  · simp only [hi] at h
    refine .inr ⟨it, rest, rfl, ?_⟩
    rcases hd : decode it with i | r
    · simp only [hd] at h
      exact .inl ⟨i, rfl, h⟩
    · simp only [hd] at h
      exact .inr ⟨r, rfl, (onReject_cases h).2⟩

/-- A run whose first step answers a next state goes on from it. -/
theorem run_succ_of_step {s t : State} (h : step s = .next t) (k : Nat) :
    Sys2Proof.core.run (k + 1) s = Sys2Proof.core.run k t := by
  have h' : Sys2Proof.core.step s = .next t := h
  simp only [Host.Core.run, h']

end Sys2Proof.Machine
end

