-- ==== Sys2Proof/Laws/PerInstr.lean ====
section
/-! SUPPORT. The family EncodingWidth, one lemma per instruction: the word that encodes an instruction has the width of its row in
spec/opcode_table.json (30_encoding.md R90 to R108). -/

namespace Sys2Proof.Laws.EncodingWidth

/-- How many bits the opcode table gives an instruction's row; 0 for an internal step. -/
def tableBits : Instr → Nat
  | .leader => 16
  | .brk => 16
  | .visStart => 16
  | .visBit _ => 16
  | .visParity _ => 16
  | .visStop => 16
  | .sync => 16
  | .porch => 16
  | .pixG _ => 16
  | .pixB _ => 16
  | .pixR _ => 16
  | .separator => 16
  | .sampleSerialize _ => 16
  | .addrChar _ => 8
  | .addrSsidMore _ => 8
  | .addrSsidLast _ => 8
  | .ctrlUi => 8
  | .pidNol3 => 8
  | .infoByte _ => 8
  | .fcsLo => 8
  | .fcsHi => 8
  | .kissFendOpen => 8
  | .kissCmdData => 8
  | .kissLit _ => 8
  | .kissEscFend => 16
  | .kissEscFesc => 16
  | .kissFendClose => 8
  | .reset => 8
  | .start _ => 8
  | .cfgSet _ _ => 8
  | .cfgRead _ => 8
  | .statusRead => 8
  | .writeOk => 8
  | .writeErr => 8
  | .sinkWrite _ => 8
  | .toneSample => 0
  | .seqStep => 0
  | .crcUpdate _ => 0

/-- How many bits of an item the table counts: a transaction's code, or a unit's whole word. -/
def itemBits : Item → Nat
  | .host _ _ => 8
  | .block _ _ => 8
  | .unit _ word => 8 * word.length

/-- The encoding of an instruction, in a frame with any FCS, is as wide as its row; only an internal step has none. -/
def Statement (i : Instr) : Prop :=
  ∀ fcs : BitVec 16, (encode fcs i).elim 0 itemBits = tableBits i ∧ (encode fcs i = none ↔ tableBits i = 0)

theorem leader : Statement .leader := fun _ => ⟨rfl, by simp [encode, tableBits]⟩

theorem brk : Statement .brk := fun _ => ⟨rfl, by simp [encode, tableBits]⟩

theorem visStart : Statement .visStart := fun _ => ⟨rfl, by simp [encode, tableBits]⟩

theorem visBit (bit : Bool) : Statement (.visBit bit) := fun _ => ⟨rfl, by simp [encode, tableBits]⟩

theorem visParity (bit : Bool) : Statement (.visParity bit) := fun _ => ⟨rfl, by simp [encode, tableBits]⟩

theorem visStop : Statement .visStop := fun _ => ⟨rfl, by simp [encode, tableBits]⟩

theorem sync : Statement .sync := fun _ => ⟨rfl, by simp [encode, tableBits]⟩

theorem porch : Statement .porch := fun _ => ⟨rfl, by simp [encode, tableBits]⟩

theorem pixG (v : Byte) : Statement (.pixG v) := fun _ => ⟨rfl, by simp [encode, tableBits]⟩

theorem pixB (v : Byte) : Statement (.pixB v) := fun _ => ⟨rfl, by simp [encode, tableBits]⟩

theorem pixR (v : Byte) : Statement (.pixR v) := fun _ => ⟨rfl, by simp [encode, tableBits]⟩

theorem separator : Statement .separator := fun _ => ⟨rfl, by simp [encode, tableBits]⟩

theorem sampleSerialize (smp : Sample) : Statement (.sampleSerialize smp) := fun _ => ⟨rfl, by simp [encode, tableBits]⟩

theorem addrChar (ch : BitVec 7) : Statement (.addrChar ch) := fun _ => ⟨rfl, by simp [encode, tableBits]⟩

theorem addrSsidMore (ssid : BitVec 4) : Statement (.addrSsidMore ssid) := fun _ => ⟨rfl, by simp [encode, tableBits]⟩

theorem addrSsidLast (ssid : BitVec 4) : Statement (.addrSsidLast ssid) := fun _ => ⟨rfl, by simp [encode, tableBits]⟩

theorem ctrlUi : Statement .ctrlUi := fun _ => ⟨rfl, by simp [encode, tableBits]⟩

theorem pidNol3 : Statement .pidNol3 := fun _ => ⟨rfl, by simp [encode, tableBits]⟩

theorem infoByte (d : Byte) : Statement (.infoByte d) := fun _ => ⟨rfl, by simp [encode, tableBits]⟩

theorem fcsLo : Statement .fcsLo := fun _ => ⟨rfl, by simp [encode, tableBits]⟩

theorem fcsHi : Statement .fcsHi := fun _ => ⟨rfl, by simp [encode, tableBits]⟩

theorem kissFendOpen : Statement .kissFendOpen := fun _ => ⟨rfl, by simp [encode, tableBits]⟩

theorem kissCmdData : Statement .kissCmdData := fun _ => ⟨rfl, by simp [encode, tableBits]⟩

theorem kissLit (d : Byte) : Statement (.kissLit d) := fun _ => ⟨rfl, by simp [encode, tableBits]⟩

theorem kissEscFend : Statement .kissEscFend := fun _ => ⟨rfl, by simp [encode, tableBits]⟩

theorem kissEscFesc : Statement .kissEscFesc := fun _ => ⟨rfl, by simp [encode, tableBits]⟩

theorem kissFendClose : Statement .kissFendClose := fun _ => ⟨rfl, by simp [encode, tableBits]⟩

theorem reset : Statement .reset := fun _ => ⟨rfl, by simp [encode, tableBits]⟩

theorem start (g : PixelGrid) : Statement (.start g) := fun _ => ⟨rfl, by simp [encode, tableBits]⟩

theorem cfgSet (k : Byte) (v : CfgValue) : Statement (.cfgSet k v) := fun _ => ⟨rfl, by simp [encode, tableBits]⟩

theorem cfgRead (k : Byte) : Statement (.cfgRead k) := fun _ => ⟨rfl, by simp [encode, tableBits]⟩

theorem statusRead : Statement .statusRead := fun _ => ⟨rfl, by simp [encode, tableBits]⟩

theorem writeOk : Statement .writeOk := fun _ => ⟨rfl, by simp [encode, tableBits]⟩

theorem writeErr : Statement .writeErr := fun _ => ⟨rfl, by simp [encode, tableBits]⟩

theorem sinkWrite (b : Bytes) : Statement (.sinkWrite b) := fun _ => ⟨rfl, by simp [encode, tableBits]⟩

theorem toneSample : Statement .toneSample := fun _ => ⟨rfl, by simp [encode, tableBits]⟩

theorem seqStep : Statement .seqStep := fun _ => ⟨rfl, by simp [encode, tableBits]⟩

theorem crcUpdate (d : Byte) : Statement (.crcUpdate d) := fun _ => ⟨rfl, by simp [encode, tableBits]⟩

end Sys2Proof.Laws.EncodingWidth
end

