-- ==== Sys2Proof/Tests/Slice0.lean ====
section
/-! SUPPORT. The model's own tests. Expected values are the spec's: the encodings of 30_encoding.md, the examples of the rules and
the vectors of 95_test_vectors.md. The last part gives each obligation with hypotheses states and operands that meet them. -/

open Sys2Proof Sys2Proof.Machine Sys2Proof.Claims

namespace Sys2Proof.Tests

/-! Fixtures. -/

/-- "N0CALL". -/
def n0call : Bytes := [0x4E, 0x30, 0x43, 0x41, 0x4C, 0x4C]

/-- "KC3SPW". -/
def kc3spw : Bytes := [0x4B, 0x43, 0x33, 0x53, 0x50, 0x57]

/-- The `BLACK` grid of 95_test_vectors.md section 3. -/
def black : PixelGrid := { w := 320, h := 256, px := List.replicate (320 * 256) ⟨0, 0, 0⟩ }

/-- A register that has been written. -/
def held {α : Type} (v : α) : Reg α := { set := true, value := v }

/-- The configuration of 95_test_vectors.md with the given payload and rate. -/
def config (m : BitVec 16) (fs : BitVec 32) : ConfigRegs :=
  { dstCall := held n0call, dstSsid := held 0, srcCall := held kc3spw, srcSsid := held 15, maxPayload := held m
    sampleRate := held fs }

/-- The latched values of that configuration. -/
def latched (m : BitVec 16) (fs : BitVec 32) : ConfigValues :=
  { dstCall := n0call, dstSsid := 0, srcCall := kc3spw, srcSsid := 15, maxPayload := m, sampleRate := fs }

/-- A configured block that has run nothing. -/
def ready (m : BitVec 16) (fs : BitVec 32) : State := { State.reset with cfg := config m fs }

/-- A block in WAIT_WRITE, frame `i` of three outstanding. -/
def waiting (i : BitVec 32) : State :=
  { State.reset with ctl := .waitWrite, fq := [[1], [2], [3]], framesTotal := 3, framesWritten := i, frameIdx := i }

/-- R6's parameters, with a `SINE` that is 0 everywhere. -/
def std : Params := Params.standard fun _ => 0

/-- R6's parameters with 7 VIS data bits. -/
def std7 : Params := { std with visSeven := true }

theorem black_legal : gridLegal black = true := by
  have hl : black.px.length = 81920 := List.length_replicate
  rw [gridLegal, hl]
  decide

/-! Ill-formed terms. -/

theorem test_ill_formed_kiss_literal : (Instr.kissLit 0xC0).wellFormed = false ∧ (Instr.kissLit 0xDB).wellFormed = false := by
  decide

theorem test_ill_formed_cfg_values :
    (Instr.cfgSet 0 (.u8 1)).wellFormed = false ∧ (Instr.cfgSet 1 (.u16 1)).wellFormed = false ∧
      (Instr.cfgSet 2 (.u32 1)).wellFormed = false ∧ (Instr.cfgSet 3 (.str [])).wellFormed = false ∧
      (Instr.cfgSet 4 (.u8 1)).wellFormed = false ∧ (Instr.cfgSet 5 (.u16 1)).wellFormed = false := by decide

theorem test_ill_formed_long_callsign : (Instr.cfgSet 0 (.str (List.replicate 256 0x41))).wellFormed = false ∧
    (Instr.cfgSet 0 (.str (List.replicate 255 0x41))).wellFormed = true := by decide +kernel

/-! Words written out from the encodings. -/

theorem test_segment_words :
    decodeTableWord 16 0b0000000000000000 = some .leader ∧ decodeTableWord 16 0b0001000000000000 = some .brk ∧
    decodeTableWord 16 0b0010000000000000 = some .visStart ∧ decodeTableWord 16 0b0011000000000001 = some (.visBit true) ∧
    decodeTableWord 16 0b0100000000000000 = some (.visParity false) ∧ decodeTableWord 16 0b0101000000000000 = some .visStop ∧
    decodeTableWord 16 0b0110000000000000 = some .sync ∧ decodeTableWord 16 0b0111000000000000 = some .porch ∧
    decodeTableWord 16 0b1000000011111110 = some (.pixG 254) ∧ decodeTableWord 16 0b1001000001000000 = some (.pixB 64) ∧
    decodeTableWord 16 0b1010000000010001 = some (.pixR 17) ∧ decodeTableWord 16 0b1011000000000000 = some .separator := by
  decide

/-- Sample −256 is written `00 FF` (95_test_vectors.md section 2.2). -/
theorem test_sample_word : decode (.unit .sample [0b00000000, 0b11111111]) = .ok (.sampleSerialize 0xFF00) := by decide

theorem test_address_words :
    decode (.unit .addrChar [0b10011100]) = .ok (.addrChar 0x4E) ∧ decode (.unit .ssidDst [0b01101110]) = .ok (.addrSsidMore 7) ∧
    decode (.unit .ssidSrc [0b01111111]) = .ok (.addrSsidLast 15) ∧ decode (.unit .addrChar [0b10011101]) = .reject .malformedWord ∧
    decode (.unit .ssidDst [0b11101110]) = .reject .malformedWord := by decide

theorem test_frame_words :
    decode (.unit .control [0b00000011]) = .ok .ctrlUi ∧ decode (.unit .pid [0b11110000]) = .ok .pidNol3 ∧
    decode (.unit .info [0b11000000]) = .ok (.infoByte 0xC0) ∧ decode (.unit .fcsLo [0b10110011]) = .ok .fcsLo ∧
    decode (.unit .fcsHi [0b10000010]) = .ok .fcsHi ∧ decode (.unit .control [0b00010011]) = .reject .malformedWord := by decide

theorem test_kiss_words :
    decode (.unit .kissOpen [0b11000000]) = .ok .kissFendOpen ∧ decode (.unit .kissCommand [0b00000000]) = .ok .kissCmdData ∧
    decode (.unit .kissData [0b11011100]) = .ok (.kissLit 0xDC) ∧
    decode (.unit .kissData [0b11011011, 0b11011100]) = .ok .kissEscFend ∧
    decode (.unit .kissData [0b11011011, 0b11011101]) = .ok .kissEscFesc ∧
    decode (.unit .kissClose [0b11000000]) = .ok .kissFendClose ∧
    decode (.unit .kissData [0b11011011, 0b11011110]) = .reject .malformedWord := by decide

theorem test_host_words :
    decodeTableWord 8 0b00000000 = some .reset ∧ decodeTableWord 8 0b00000001 = some (.start { w := 0, h := 0, px := [] }) ∧
    decodeTableWord 8 0b00000010 = some (.cfgSet 0 (.str [])) ∧ decodeTableWord 8 0b00000011 = some (.cfgRead 0) ∧
    decodeTableWord 8 0b00000100 = some .statusRead ∧ decodeTableWord 8 0b00000101 = some .writeOk ∧
    decodeTableWord 8 0b00000110 = some .writeErr ∧ decodeTableWord 8 0b10000000 = some (.sinkWrite []) := by decide

theorem test_reserved_host_codes :
    decode (.host 0x07 .none) = .reject .reservedHostCode ∧ decode (.host 0x7F .none) = .reject .reservedHostCode ∧
    decode (.host 0x81 .none) = .reject .reservedHostCode ∧ decode (.host 0x80 .none) = .reject .blockCodeFromHost := by decide

theorem test_fetch_word_runs : step (State.reset.withFetchWord 8 0x04) = exec .statusRead State.reset := rfl

/-! The sequencer (95_test_vectors.md section 2.1). -/

/-- FPIX(128) and FPIX(1) at 44100 Hz. -/
theorem test_pixel_increments : phaseInc std 44100 (pixelTone 128) = 185196714 ∧ phaseInc std 44100 (pixelTone 1) = 146392865 := by
  decide

/-- At 1000 Hz, 1900 Hz turns by −0.1 cycle and 1500 Hz by exactly half of one. -/
theorem test_wrapping_increments : phaseInc std 1000 (segTone .leader) = 3865470566 ∧
    phaseInc std 1000 (segTone .porch) = 2147483648 := by decide

/-- Segment boundaries at 44100 Hz: BREAK, the first SYNC, line 1's SYNC and the end. -/
theorem test_segment_boundaries : [300000000, 310000000, 940000000, 944862000, 1386446000, 115230176000].map (sampleAt 44100)
    = [13230, 13671, 41454, 41669, 61143, 5081651] := by decide

/-- The phase after the first LEADER. -/
theorem test_leader_phase :
    (afterTones std 13230 { SeqRegs.zero with inc := 185043942 }).phase = 4294961236 := by decide

/-- Two samples at fs = 2 with increment 2^31: the phase returns to 0, and the index stands at 2. -/
theorem test_tone_run : (toneRun std 2 { SeqRegs.zero with inc := 0x80000000 } []).1.phase = 0 ∧
    (toneRun std 2 { SeqRegs.zero with inc := 0x80000000 } []).1.sampleIdx = 2 := by decide +kernel

/-- At 1 Hz the first LEADER holds the one sample at 0 s. -/
theorem test_segment_of_one_sample : segCount 1 (segTone .leader) SeqRegs.zero = 1 ∧
    segCount 1 (segTone .brk) { SeqRegs.zero with sampleIdx := 1, tNs := 300000000 } = 0 := by decide

theorem test_serial_bytes : serialSample 0x223A = [0x3A, 0x22] ∧ serialSample 0xFFFF = [0xFF, 0xFF] ∧
    serialSample 0x8001 = [0x01, 0x80] := by decide

/-! The framer (95_test_vectors.md sections 2.3, 2.5, 2.6). -/

theorem test_header : header (latched 256 44100) =
    [0x9C, 0x60, 0x86, 0x82, 0x98, 0x98, 0x60, 0x96, 0x86, 0x66, 0xA6, 0xA0, 0xAE, 0x7F, 0x03, 0xF0] := by decide

/-- "AB1" and "AB1   " give the same field. -/
theorem test_padding : callField [0x41, 0x42, 0x31] = [0x82, 0x84, 0x62, 0x40, 0x40, 0x40] ∧
    callField [0x41, 0x42, 0x31, 0x20, 0x20, 0x20] = [0x82, 0x84, 0x62, 0x40, 0x40, 0x40] := by decide

theorem test_chunks : (chunks 3 [0, 1, 2, 3, 4, 5, 6, 7, 8, 9]) = [[0, 1, 2], [3, 4, 5], [6, 7, 8], [9]] ∧
    chunks 5 [] = [] := by decide

/-- The first two steps of the trace of section 2.6. -/
theorem test_crc_trace : crcUpdate 0xFFFF 0x9C = 0x5162 ∧ crcUpdate 0x5162 0x60 = 0x2343 := by decide

/-- The frame N0CALL-0 to KC3SPW-15 with information field `00`. -/
theorem test_frame : ax25 (latched 256 44100) [0x00] = [[0x9C, 0x60, 0x86, 0x82, 0x98, 0x98, 0x60, 0x96, 0x86, 0x66, 0xA6, 0xA0,
    0xAE, 0x7F, 0x03, 0xF0, 0x00, 0x72, 0xB2]] := by decide +kernel

theorem test_fcs_bytes : fcsLoByte (0x82B3 ^^^ 0xFFFF) = 0xB3 ∧ fcsHiByte (0x82B3 ^^^ 0xFFFF) = 0x82 := by decide

/-! The KISS encoder (95_test_vectors.md section 2.7). -/

theorem test_kiss_frames : kissFrame [] = [0xC0, 0x00, 0xC0] ∧ kissFrame [0xDB, 0xDC] = [0xC0, 0x00, 0xDB, 0xDD, 0xDC, 0xC0] ∧
    kissFrame [0xDB, 0xDB, 0xC0] = [0xC0, 0x00, 0xDB, 0xDD, 0xDB, 0xDD, 0xDB, 0xDC, 0xC0] := by decide

theorem test_unkiss_malformed : [[0xC0, 0xC0], [0xC0, 0x01, 0xC0], [0x00, 0x00, 0xC0], [0xC0, 0x00, 0xDB, 0xDC],
    [0xC0, 0x00, 0xDB, 0xC0], [0xC0, 0x00, 0xDB, 0x00, 0xC0], [0xC0, 0x00, 0xC0, 0xC0],
    [0xC0, 0x00, 0x41, 0xC0, 0x42, 0xC0]].map unkiss = List.replicate 8 none := by decide

theorem test_unkiss : unkiss [0xC0, 0x00, 0xDB, 0xDD, 0xDB, 0xDC, 0xC0] = some [0xDB, 0xC0] := by decide

/-! The checks of START (95_test_vectors.md section 2.4). -/

theorem test_callcheck :
    callCheck n0call 15 = none ∧ callCheck [0x41, 0x42, 0x31, 0x20, 0x20, 0x20] 7 = none ∧
    callCheck (n0call ++ [0x20]) 0 = some .tooLong ∧ callCheck (n0call ++ [0x58]) 16 = some .tooLong ∧
    callCheck [] 0 = some .empty ∧ callCheck [0x20, 0x20, 0x20] 0 = some .empty ∧
    callCheck [0x4E, 0x30, 0x20, 0x43, 0x41, 0x4C] 0 = some .badChar ∧
    callCheck [0x6E, 0x30, 0x63, 0x61, 0x6C, 0x6C] 16 = some .badChar ∧ callCheck n0call 16 = some .badSsid := by decide

theorem test_validate_order :
    validate (config 0 0) black = some { code := .invalidConfiguration, detail := .cfg 4 .range } ∧
    validate (config 1 1000001) black = some { code := .invalidConfiguration, detail := .cfg 5 .range } ∧
    validate { config 256 44100 with dstCall := ConfigRegs.unset.dstCall } { w := 0, h := 0, px := [] }
      = some { code := .invalidConfiguration, detail := .cfg 0 .unset } ∧
    validate { config 256 44100 with dstCall := held (n0call ++ [0x58]) } { w := 0, h := 0, px := [] }
      = some { code := .invalidDimensions, detail := .dim 0 0 0 } := by decide

/-- Section 2.4's legal rows: the largest rate, the smallest, and the largest payload. -/
theorem test_validate_accepts : validate (config 256 1000000) black = none ∧ validate (config 256 1) black = none ∧
    validate (config 65535 44100) black = none := by
  have key (m : BitVec 16) (fs : BitVec 32) (h1 : m.toNat ≠ 0) (h2 : rateLegal fs.toNat = true) :
      validate (config m fs) black = none :=
    (validate_eq_none_iff _ _).2 ⟨rfl, h1, h2, black_legal, rfl, rfl⟩
  exact ⟨key _ _ (by decide) (by decide), key _ _ (by decide) (by decide), key _ _ (by decide) (by decide)⟩

/-! The controller (95_test_vectors.md section 2.9). -/

/-- FRAMES_TOTAL 3, FRAME_IDX 2, WRITE_OK. -/
theorem test_write_ok_last : (match execWriteOk (waiting 2) with
    | .next t => (t.ctl, t.framesWritten, t.fq, t.sink)
    | _ => (.idle, 0, [], [])) = (CtlState.done, 3, [], []) := by decide

/-- FRAME_IDX 0, WRITE_OK: frame 1 goes out. -/
theorem test_write_ok_first : (match execWriteOk (waiting 0) with
    | .next t => (t.ctl, t.framesWritten, t.frameIdx, t.sink)
    | _ => (.idle, 0, 0, [])) = (CtlState.waitWrite, 1, 1, [[2]]) := by decide

theorem test_write_err : (match execWriteErr (waiting 2) with
    | .next t => (t.ctl, errNumber t.errCode, t.errDetail, t.framesWritten)
    | _ => (.idle, 0, .none, 0)) = (CtlState.error, 3, ErrDetail.frame 2, 2) := by decide

/-- CFG_SET SRC_SSID, 15. -/
theorem test_cfg_set : (match execCfgSet 3 (.u8 15) State.reset with
    | .next t => t.cfg.srcSsid
    | _ => held 0) = held 15 := by decide

theorem test_cfg_read_unset : (match execCfgRead 4 State.reset with
    | .next t => t.replies
    | _ => []) = [Reply.cfg 4 none] := by decide

/-- RESET in WAIT_WRITE keeps PV and forgets the write. -/
theorem test_reset_in_wait : (match execReset { waiting 1 with pv := true } with
    | .next t => (t.ctl, t.fq, t.pv, t.outstanding)
    | _ => (.error, [], false, none)) = (CtlState.idle, [], true, none) := by decide

/-- START of an unconfigured block: CFG(0, UNSET), nothing written. -/
theorem test_start_unconfigured : (match startTxn std { w := 0, h := 0, px := [] } State.reset with
    | .next t => (t.ctl, t.errDetail, t.sink)
    | _ => (.idle, .none, [])) = (CtlState.error, ErrDetail.cfg 0 .unset, []) := by rfl

/-! ## States and operands that meet the hypotheses of the obligations -/

theorem waiting_inv (i : BitVec 32) (h : i.toNat < 3) : (waiting i).Inv :=
  { status := ⟨rfl, rfl, h⟩
    counters := ⟨by show i.toNat ≤ 3; omega, rfl⟩
    detail := trivial
    phase := ⟨two_pow_phaseBits_pos _, two_pow_phaseBits_pos _⟩
    callsigns := ⟨Nat.zero_le _, Nat.zero_le _⟩ }

/-- EveryStepKeepsTheInvariant, InvariantStatesNeverStop. -/
theorem test_witness_invariant : ∃ s t : State, s.Inv ∧ s.inbox ≠ [] ∧ step s = .next t ∧ t.ctl = .waitWrite :=
  ⟨{ waiting 0 with inbox := [.host 0x05 .none] }, (((waiting 0).countWritten).sinkWrite [2]),
    { waiting_inv 0 (by decide) with }, by decide, rfl, rfl⟩

/-- InvariantStatesNeverStop at the last frame index, and with every kind of operand check met. -/
theorem test_witness_never_stop : (waiting 2).Inv ∧ Instr.writeOk.wellFormed = true ∧ (Instr.kissLit 0xDC).wellFormed = true ∧
    (Instr.cfgSet 255 (.u8 0)).wellFormed = true := ⟨waiting_inv 2 (by decide), by decide⟩

/-- DecodeOfEncodeIsTheInstruction, EncodeOfDecodeIsTheItem. -/
theorem test_witness_encoding : (Instr.kissLit 0xDD).wellFormed = true ∧
    encode 0 (.kissLit 0xDD) = some (.unit .kissData [0xDD]) ∧ decode (.unit .kissData [0xDD]) = .ok (.kissLit 0xDD) ∧
    Instr.kissLit 0xDD ≠ .fcsLo ∧ Instr.kissLit 0xDD ≠ .fcsHi := by decide

/-- MalformedDescriptorsAreRefused: a reserved kind, a reserved bit, an argument where none is taken, arg[7:1] ≠ 0; a step that
meets one; a segment of a schedule. -/
theorem test_witness_malformed :
    decode (.unit .segment [0xC0, 0x00]) = .reject .malformedDescriptor ∧
    decode (.unit .segment [0x81, 0x00]) = .reject .malformedDescriptor ∧
    decode (.unit .segment [0xB0, 0x01]) = .reject .malformedDescriptor ∧
    decode (.unit .segment [0x30, 0x02]) = .reject .malformedDescriptor ∧
    { State.reset with inbox := [.unit .segment [0xC0, 0x00]] }.inbox = .unit .segment [0xC0, 0x00] :: [] ∧
    Segment.leader ∈ schedule std black :=
  ⟨by decide, by decide, by decide, by decide, rfl, by simp [schedule, visHeader]⟩

/-- StepRunsTheDecodedInstruction and BlockWaitsForTheHost. -/
theorem test_witness_step : { State.reset with inbox := [.unit .info [0x7E]] }.inbox = .unit .info [0x7E] :: [] ∧
    decode (.unit .info [0x7E]) = .ok (.infoByte 0x7E) ∧ (waiting 1).inbox = [] := by decide

/-- ProtocolViolationMarkIsSticky, StepHandsOverAtMostOneWrite. -/
theorem test_witness_sticky : ∃ s t : State, step s = .next t ∧ s.pv = true ∧ t.sink = [[7]] :=
  ⟨{ State.reset with pv := true, inbox := [.block 0x80 [7]] }, { State.reset with pv := true, sink := [[7]] }, rfl, rfl, rfl⟩

/-- ProtocolViolationsSetPvOnly: each clause, at the ends of its range. -/
theorem test_witness_violations : (waiting 0).ctl = .waitWrite ∧ State.reset.ctl ≠ .waitWrite ∧ 6 ≤ (6#8).toNat ∧ 6 ≤ (255#8).toNat ∧
    (0x07 ≤ (0x07#8).toNat ∧ (0x07#8).toNat ≤ 0x7F) ∧ (0x07 ≤ (0x7F#8).toNat ∧ (0x7F#8).toNat ≤ 0x7F) ∧ 0x81 ≤ (0x81#8).toNat ∧
    0x81 ≤ (0xFF#8).toNat ∧ { State.reset with inbox := [.host 0x81 .none] }.inbox = .host 0x81 .none :: [] := by decide

/-- ConfigurationKeptByAllButCfgSetAndReset: a step that is neither, with a register set. -/
theorem test_witness_configuration : ∃ t, exec .writeErr (ready 256 44100) = .next t ∧ Instr.writeErr ≠ .reset ∧
    (∀ k v, Instr.writeErr ≠ .cfgSet k v) ∧ setBit (ready 256 44100).cfg 5 = true :=
  ⟨_, rfl, by decide, fun _ _ h => (by cases h), rfl⟩

/-- StatusWrittenByControllerOnly: both parts. -/
theorem test_witness_status : (∃ t, exec .writeOk (waiting 2) = .next t) ∧ (∃ t, exec .ctrlUi (waiting 2) = .next t) ∧
    Instr.ctrlUi ≠ .reset ∧ (∀ g, Instr.ctrlUi ≠ .start g) ∧ Instr.ctrlUi ≠ .writeOk ∧ Instr.ctrlUi ≠ .writeErr ∧
    Instr.writeOk ≠ .reset ∧ (∀ g, Instr.writeOk ≠ .start g) :=
  ⟨⟨_, rfl⟩, ⟨_, rfl⟩, by decide, fun _ h => (by cases h), by decide, by decide, by decide, fun _ h => (by cases h)⟩

/-- A block whose latched grid is the black one and whose latched rate is `fs`, with the phase `p`. -/
def tuned (fs p : BitVec 32) : State :=
  { State.reset with grid := black, lcfg := latched 256 fs, seq := { SeqRegs.zero with phase := p } }

theorem tuned_checked (fs p : BitVec 32) (h : 1 ≤ fs.toNat ∧ fs.toNat ≤ 1000000) : Checked (tuned fs p) :=
  ⟨rfl, rfl, List.length_replicate, h⟩

/-- FixedToneSegments, VisCellSegments, PixelSegments, ToneSampleOutputsThenAdvances, SequencerWalkEmitsTheDefinedStream: both ends
of the rate's range, with the least phase and the greatest. -/
theorem test_witness_tone :
    (Checked (tuned 1 0) ∧ (tuned 1 0).seq.phase.toNat < phaseMod) ∧
    (Checked (tuned 1000000 (BitVec.ofNat 32 (phaseMod - 1))) ∧
      (tuned 1000000 (BitVec.ofNat 32 (phaseMod - 1))).seq.phase.toNat < phaseMod) := by
  have h0 : phaseMod - 1 < phaseMod := Nat.sub_lt (two_pow_phaseBits_pos Config.params) Nat.one_pos
  exact ⟨⟨tuned_checked _ _ (by decide), two_pow_phaseBits_pos Config.params⟩,
    tuned_checked _ _ (by decide), (toNat_ofNat_of_phase (P := Config.params) h0).symm ▸ h0⟩

/-- ScanLineSegments, BlackGridIsConstantTone. -/
theorem test_witness_line : black.px.length = 320 * 256 ∧ black.px = List.replicate (320 * 256) ⟨0, 0, 0⟩ ∧ 255 < 256 :=
  ⟨List.length_replicate, rfl, by decide⟩

/-- SequencerNeedsCheckedGridAndRate: each of its five grounds alone, and an instruction of each kind. -/
theorem test_witness_unchecked : { tuned 1 0 with grid := { black with w := 319 } }.grid.w ≠ 320 ∧
    { tuned 1 0 with grid := { black with h := 255 } }.grid.h ≠ 256 ∧
    { tuned 1 0 with grid := { black with px := [] } }.grid.px.length ≠ black.w * black.h ∧
    (tuned 0 0).lcfg.sampleRate.toNat = 0 ∧ 1000000 < (tuned 1000001 0).lcfg.sampleRate.toNat ∧
    computesSamples (.pixB 7) = true ∧ computesSamples .toneSample = true ∧ computesSamples .seqStep = true := by decide

/-- R141: at power-on, where no START has latched a grid, LEADER and TONE_SAMPLE compute no sample. -/
theorem test_unchecked_unit : exec .leader State.reset = .next State.reset ∧ exec .toneSample State.reset = .next State.reset := by
  have h : State.reset.unitChecked = false := by decide
  simp only [exec, execLeader, execToneSample, runSegment_eq, runToneSample_eq, State.runUnit_of_unchecked _ h, and_self]

/-- StreamLengthIsFixed, IncrementIsTheRoundedRatio, FrameCount: parameters of both kinds. -/
theorem test_witness_parameters : std.visDataBits = 8 ∧ std7.visDataBits = 7 ∧ std.phaseBits = 32 ∧ std.amplitude = 32767 ∧
    (latched 256 44100).sampleRate = 44100 ∧ (latched 256 44100).maxPayload = 256 ∧ 1 ≤ (latched 256 44100).maxPayload.toNat ∧
    0 < (pixelTone 255).den := by decide

/-- A real number rounded half away from zero. -/
theorem roundsHalfAway_exists (x : ℝ) : ∃ n : Int, RoundsHalfAway x n := by
  have hf : 0 ≤ ⌊|x| + 1 / 2⌋ := Int.floor_nonneg.2 (by positivity)
  rcases le_total 0 x with h | h
  · refine ⟨⌊|x| + 1 / 2⌋, Int.natAbs_of_nonneg hf, fun _ => hf, fun h' => ?_⟩
    rw [le_antisymm h' h]
    norm_num
  · refine ⟨-⌊|x| + 1 / 2⌋, by rw [Int.natAbs_neg, Int.natAbs_of_nonneg hf], fun h' => ?_, fun _ => by omega⟩
    rw [le_antisymm h h']
    norm_num

/-- A rounded number is no larger than the bound of what it rounds. -/
theorem roundsHalfAway_le {x : ℝ} {n : Int} (h : RoundsHalfAway x n) {a : Nat} (hx : |x| ≤ a) : -(a : Int) ≤ n ∧ n ≤ a := by
  have hle : (n.natAbs : Int) < a + 1 := by
    rw [h.1, Int.floor_lt]
    push_cast
    linarith
  omega

theorem standard_amplitude (f : Nat → Int) : (Params.standard f).amplitude = 32767 := by
  simp [Params.amplitude, Params.standard]

/-- ReferenceSineCorners: R6's parameters with a `SINE` that is `SINE_ref`. -/
theorem test_witness_reference_sine : ∃ P : Params, P.phaseBits = 32 ∧ P.amplitude = 32767 ∧ P.IsSineRef := by
  choose f hf using roundsHalfAway_exists
  refine ⟨Params.standard fun p => f (32767 * Real.sin (2 * Real.pi * (p : ℝ) / 2 ^ 32)), by
    simp [Params.phaseBits, Params.standard], standard_amplitude _, fun p _ => ?_⟩
  have hr := hf (32767 * Real.sin (2 * Real.pi * (p : ℝ) / 2 ^ 32))
  have hb := roundsHalfAway_le hr (a := 32767) (by
    rw [abs_mul, abs_of_pos (by norm_num : (0 : ℝ) < 32767)]
    have := Real.abs_sin_le_one (2 * Real.pi * (p : ℝ) / 2 ^ 32)
    push_cast
    linarith)
  rw [Params.sine, standard_amplitude]
  simp only [Params.standard, Params.phaseBits, min_eq_right hb.2, max_eq_right hb.1]
  exact hr

/-- AddressFieldIsPaddedAndShifted: six characters, and none. -/
theorem test_witness_address : n0call.length ≤ 6 ∧ (∀ d ∈ n0call, d.toNat < 128) ∧ ([] : Bytes).length ≤ 6 := by decide

/-- FrameLayout, FramesLoseNothing, FrameResidue: a stream of two chunks. -/
theorem test_witness_frames : (latched 2 44100).dstCall.length ≤ 6 ∧ (latched 2 44100).srcCall.length ≤ 6 ∧
    1 ≤ (latched 2 44100).maxPayload.toNat ∧
    ax25Frame (header (latched 2 44100)) [5] ∈ ax25 (latched 2 44100) [0xC0, 4, 5] := by decide +kernel

/-- ChunksCutTheStream: its inner bounds, with a shorter last chunk. -/
theorem test_witness_chunks : 1 ≤ 3 ∧ 0 + 1 < (chunks 3 [1, 2, 3, 4]).length ∧ [4] ∈ chunks 3 [1, 2, 3, 4] ∧
    1 < (chunks 3 [1, 2, 3, 4]).length := by decide

/-- ChunkBoundaryCases: a stream of exactly M bytes, and the lowest rate. -/
theorem test_witness_boundary : ([1, 2] : Bytes).length = (latched 2 44100).maxPayload.toNat ∧ ([1, 2] : Bytes) ≠ [] ∧ 1 ≤ 1 := by
  decide

/-- KissTokens, ValuesThatAreNoOperandsAreRefused: both sides of the literal's condition. -/
theorem test_witness_literals : (0xDC : Byte) ≠ 0xC0 ∧ (0xDC : Byte) ≠ 0xDB ∧ ((0xDB : Byte) = 0xC0 ∨ (0xDB : Byte) = 0xDB) := by decide

/-- KissFrameLength: a frame of a legal configuration. -/
theorem test_witness_kiss_length : 1 ≤ (latched 1 44100).maxPayload.toNat ∧
    callCheck (latched 1 44100).dstCall (latched 1 44100).dstSsid = none ∧
    callCheck (latched 1 44100).srcCall (latched 1 44100).srcSsid = none ∧
    kissFrame (ax25Frame (header (latched 1 44100)) [0xC0]) ∈ framesOf (latched 1 44100) [0xC0] := by decide +kernel

/-- CallsignCheck: a part before the spaces for each outcome. -/
theorem test_witness_callsigns : n0call.getLast? ≠ some 0x20#8 ∧ ([] : Bytes).getLast? ≠ some 0x20#8 ∧
    ([0x41, 0x20, 0x42] : Bytes).getLast? ≠ some 0x20#8 ∧ 6 < n0call.length + 1 ∧ 15 < (16#8).toNat := by decide

/-- ValidateReportsTheFirstFailure: register 3 the first UNSET one, and all six set. -/
theorem test_witness_validate :
    setBit { config 1 1 with srcSsid := ConfigRegs.unset.srcSsid, sampleRate := ConfigRegs.unset.sampleRate } 3 = false ∧
    (∀ j < 3, setBit { config 1 1 with srcSsid := ConfigRegs.unset.srcSsid, sampleRate := ConfigRegs.unset.sampleRate } j = true) ∧
    (∀ k < 6, setBit (config 1 1) k = true) := by decide

/-- CfgSetWritesOneRegister, ReadsReturnTheRegisters, ValuesThatAreNoOperandsAreRefused, on both sides of register 6. -/
theorem test_witness_cfg : (5#8).toNat < 6 ∧ 6 ≤ (6#8).toNat ∧ cfgShapeOk 5 (.u16 1) = false ∧ n0call.length ≤ 255 := by decide

/-- StartReportsTheError: each error class, from DONE. -/
theorem test_witness_start_error : { State.reset with ctl := .done }.ctl ≠ .waitWrite ∧
    validate State.reset.cfg black = some { code := .invalidConfiguration, detail := .cfg 0 .unset } ∧
    validate (config 1 1) { w := 320, h := 256, px := [] } = some { code := .invalidDimensions, detail := .dim 320 256 0 } ∧
    validate { config 1 1 with srcSsid := held 16 } black = some { code := .invalidCallsign, detail := .call .src .badSsid } := by
  refine ⟨by decide, by decide, by decide, ?_⟩
  simp only [validate, validateGridAndCalls, black_legal]
  decide

/-- StartComputesAllFrames: a legal START from ERROR. -/
theorem test_witness_start : { ready 256 1000000 with ctl := .error }.ctl ≠ .waitWrite ∧
    validate { ready 256 1000000 with ctl := .error }.cfg black = none := ⟨by decide, test_validate_accepts.1⟩

/-- WriteOkAdvances: the last frame, one that is not, and no write outstanding. WriteErrAborts. -/
theorem test_witness_write : (waiting 2).Inv ∧ (waiting 2).ctl = .waitWrite ∧
    (waiting 2).frameIdx.toNat + 1 = (waiting 2).framesTotal.toNat ∧ (waiting 0).Inv ∧ (waiting 0).ctl = .waitWrite ∧
    (waiting 0).frameIdx.toNat + 1 ≠ (waiting 0).framesTotal.toNat ∧ State.reset.ctl ≠ .waitWrite :=
  ⟨waiting_inv 2 (by decide), rfl, rfl, waiting_inv 0 (by decide), rfl, by decide, by decide⟩

/-- A cycle at 1 Hz has 116 samples under either `VIS_DATA_BITS` (95_test_vectors.md section 1.1), so with 128-byte chunks two
frames. -/
theorem test_two_frames : (cycleFrames Config.params (latched 128 1) black).length = 2 := by
  have hn : sampleAt 1 (totalNs Config.params) = 116 := by
    unfold totalNs
    split <;> decide
  rw [cycleFrames, framesOf, List.length_map, ax25_length, serialStream_length, sstv]
  simp only [List.length_map, List.length_range, sampleIncs_length, Nat.zero_add, totalDur_schedule]
  rw [show (latched 128 1).sampleRate.toNat = 1 from rfl, hn, sampleAt_zero]
  decide

theorem test_validate_two_frames : validate (config 128 1) black = none :=
  (validate_eq_none_iff _ _).2 ⟨rfl, by decide, by decide, black_legal, by decide, by decide⟩

/-- CycleLawEveryWriteAccepted: two frames, a read and a CFG_SET among the answers. -/
theorem test_witness_cycle_accepted :
    let l : List Instr := [.statusRead, .writeOk, .cfgSet 5 (.u32 8000)]
    let s : State := { ready 128 1 with inbox := hostItems (.start black :: (l ++ [.writeOk])) ++ [.host 0x00 .none] }
    s.pv = false ∧ s.ctl ≠ .waitWrite ∧ validate s.cfg black = none ∧ AcceptingScript l ∧
      s.inbox = hostItems (.start black :: (l ++ [.writeOk])) ++ [.host 0x00 .none] ∧
      l.count .writeOk + 1 = (cycleFrames Config.params (latchCfg s.cfg s.lcfg) black).length := by
  refine ⟨rfl, by decide, test_validate_two_frames, by unfold AcceptingScript; decide, rfl, ?_⟩
  show 2 = (cycleFrames Config.params (latchCfg (config 128 1) ConfigValues.zero) black).length
  rw [show latchCfg (config 128 1) ConfigValues.zero = latched 128 1 from rfl, test_two_frames]

/-- CycleLawFirstFailedWrite: write 1 of two fails. -/
theorem test_witness_cycle_failed :
    let l : List Instr := [.writeOk, .cfgRead 5]
    let s : State := { ready 128 1 with inbox := hostItems (.start black :: (l ++ [.writeErr])) ++ [] }
    s.pv = false ∧ s.ctl ≠ .waitWrite ∧ validate s.cfg black = none ∧ AcceptingScript l ∧
      s.inbox = hostItems (.start black :: (l ++ [.writeErr])) ++ [] ∧
      l.count .writeOk < (cycleFrames Config.params (latchCfg s.cfg s.lcfg) black).length := by
  refine ⟨rfl, by decide, test_validate_two_frames, by unfold AcceptingScript; decide, rfl, ?_⟩
  show 1 < (cycleFrames Config.params (latchCfg (config 128 1) ConfigValues.zero) black).length
  rw [show latchCfg (config 128 1) ConfigValues.zero = latched 128 1 from rfl, test_two_frames]
  decide

/-- NothingCarriesBetweenCycles: two blocks with one configuration and different pasts, both of which START answers. -/
theorem test_witness_no_carry : ∃ s1 s2 t1 t2 : State, s1 ≠ s2 ∧ s1.cfg = s2.cfg ∧ s1.ctl ≠ .waitWrite ∧ s2.ctl ≠ .waitWrite ∧
    validate s1.cfg black = none ∧ exec (.start black) s1 = .next t1 ∧ exec (.start black) s2 = .next t2 := by
  have key (s : State) (hw : s.ctl ≠ .waitWrite) (hv : validate s.cfg black = none) :
      ∃ t, exec (.start black) s = .next t := by
    obtain ⟨t, ht⟩ := beginWrites_isNext (s := computeFrames Config.params (s.latch black).clearStatus) rfl
      (computeFrames_framesTotal _ _)
    refine ⟨t, ?_⟩
    show startTxn Config.params black s = _
    rw [startTxn, if_neg hw, startCycle, hv]
    exact ht
  obtain ⟨t1, h1⟩ := key (ready 128 1) (by decide) test_validate_two_frames
  obtain ⟨t2, h2⟩ := key { ready 128 1 with ctl := .error, framesTotal := 9, crc := 5 } (by decide) test_validate_two_frames
  exact ⟨ready 128 1, { ready 128 1 with ctl := .error, framesTotal := 9, crc := 5 }, t1, t2,
    fun h => absurd (congrArg State.ctl h) nofun, rfl, by decide, by decide, test_validate_two_frames, h1, h2⟩

end Sys2Proof.Tests
end

namespace Sys2Proof.Machine

/-! ## What an instruction does to the state outside its own data path

Everything an instruction can do, said once. Most instructions keep the configuration, the status and the queue
(`ControlKept`); the others are the transactions that drive the controller (`ExecEffect`). -/

/-- From `s` to `t` the configuration, the latched copies, the status and the queue stay, a set PV stays set (10_state.md
R35), and PHASE and INC stay within their width (R36). -/
structure ControlKept (s t : State) : Prop where
  cfg : t.cfg = s.cfg
  lcfg : t.lcfg = s.lcfg
  grid : t.grid = s.grid
  ctl : t.ctl = s.ctl
  errCode : t.errCode = s.errCode
  errDetail : t.errDetail = s.errDetail
  framesTotal : t.framesTotal = s.framesTotal
  framesWritten : t.framesWritten = s.framesWritten
  fq : t.fq = s.fq
  frameIdx : t.frameIdx = s.frameIdx
  pv : s.pv = true → t.pv = true
  phase : s.phaseFits → t.phaseFits

/-- The walk of R164 leaves PHASE and INC within their width. -/
theorem seqWalk_fits (P : Params) (fs : Nat) (g : PixelGrid) {r : SeqRegs} (hi : r.inc.toNat < 2 ^ P.phaseBits) :
    (seqWalk P fs g r).1.phase.toNat < 2 ^ P.phaseBits ∧ (seqWalk P fs g r).1.inc.toNat < 2 ^ P.phaseBits :=
  segLoop_fits P fs _ (seqInit r) [] (two_pow_phaseBits_pos P) hi

namespace ControlKept

variable {s t u : State}

theorem trans (h : ControlKept s t) (k : ControlKept t u) : ControlKept s u where
  cfg := k.cfg.trans h.cfg
  lcfg := k.lcfg.trans h.lcfg
  grid := k.grid.trans h.grid
  ctl := k.ctl.trans h.ctl
  errCode := k.errCode.trans h.errCode
  errDetail := k.errDetail.trans h.errDetail
  framesTotal := k.framesTotal.trans h.framesTotal
  framesWritten := k.framesWritten.trans h.framesWritten
  fq := k.fq.trans h.fq
  frameIdx := k.frameIdx.trans h.frameIdx
  pv := k.pv ∘ h.pv
  phase := k.phase ∘ h.phase

variable (s)

theorem markPv : ControlKept s s.markPv := by
  constructor <;> simp [State.phaseFits]

theorem emitFrame (b : Bytes) : ControlKept s (s.emitFrame b) := by
  constructor <;> simp [State.phaseFits]

theorem emitKiss (b : Bytes) : ControlKept s (s.emitKiss b) := by
  constructor <;> simp [State.phaseFits]

theorem emitSb (b : Bytes) : ControlKept s (s.emitSb b) := by
  constructor <;> simp [State.phaseFits]

theorem reply (r : Reply) : ControlKept s (s.reply r) := by
  constructor <;> simp [State.phaseFits]

theorem sinkWrite (b : Bytes) : ControlKept s (s.sinkWrite b) := by
  constructor <;> simp [State.phaseFits]

theorem setCrc (c : BitVec 16) : ControlKept s (s.setCrc c) := by
  constructor <;> simp [State.phaseFits]

theorem setChunkOff (n : BitVec 32) : ControlKept s (s.setChunkOff n) := by
  constructor <;> simp [State.phaseFits]

theorem withInbox (l : List Item) : ControlKept s (s.withInbox l) := by
  constructor <;> simp [State.phaseFits]

theorem refl : ControlKept s s :=
  ⟨rfl, rfl, rfl, rfl, rfl, rfl, rfl, rfl, rfl, rfl, id, id⟩

theorem withSeq {r : SeqRegs} {xs : List Sample} (h : s.phaseFits → (s.withSeq r xs).phaseFits) :
    ControlKept s (s.withSeq r xs) :=
  ⟨rfl, rfl, rfl, rfl, rfl, rfl, rfl, rfl, rfl, rfl, id, h⟩

/-- An instruction of the sequencer, where the registers it computes keep their width. -/
theorem runUnit {out : SeqRegs × List Sample} (h : s.phaseFits → (s.withSeq out.1 out.2).phaseFits) :
    ControlKept s (s.runUnit out) := by
  rcases s.runUnit_cases out with ⟨-, hu⟩ | ⟨-, hu⟩
  · exact hu ▸ withSeq s h
  · rw [hu]; exact refl s

theorem runSegment (sg : Segment) : ControlKept s (runSegment Config.params sg s) :=
  runUnit s fun hs => segRun_fits _ _ _ _ _ hs.1

theorem runToneSample : ControlKept s (runToneSample Config.params s) :=
  runUnit s fun hs => ⟨(toNat_ofNat_mod_phase _ _).trans_lt (Nat.mod_lt _ (two_pow_phaseBits_pos _)), hs.2⟩

theorem runSeqStep : ControlKept s (runSeqStep Config.params s) :=
  runUnit s fun hs => seqWalk_fits _ _ _ hs.2

end ControlKept

/-- Everything an instruction can do: it keeps the control side of the state, or it is RESET (R292), a CFG_SET of one of the six
registers (R281), a START outside WAIT_WRITE (R283), or an answer to the outstanding write (R287, R288). -/
inductive ExecEffect (s : State) : Instr → State → Prop
  | kept {i : Instr} {t : State} (h : ControlKept s t) : ExecEffect s i t
  | reset : ExecEffect s .reset s.resetKeeping
  | cfgWritten {k : Byte} {v : CfgValue} {c : ConfigRegs} (hv : cfgShapeOk k v = true)
      (hc : writeCfg s.cfg k v = some c) : ExecEffect s (.cfgSet k v) (s.withCfg c)
  | startFails {g : PixelGrid} {e : CycleError} (he : validate s.cfg g = some e) :
      ExecEffect s (.start g) ((s.latch g).clearStatus.raiseError e.code e.detail)
  | startRuns {g : PixelGrid} {t : State} (hv : validate s.cfg g = none)
      (hb : beginWrites (computeFrames Config.params (s.latch g).clearStatus) = .next t) : ExecEffect s (.start g) t
  | lastWritten (hw : s.ctl = .waitWrite) (hl : s.frameIdx + 1 = s.framesTotal) :
      ExecEffect s .writeOk s.countWritten.complete
  | nextWrite {b : Bytes} (hw : s.ctl = .waitWrite) (hb : s.fq[(s.frameIdx + 1).toNat]? = some b) :
      ExecEffect s .writeOk (s.countWritten.sinkWrite b)
  | writeFails (hw : s.ctl = .waitWrite) :
      ExecEffect s .writeErr (s.raiseError .transportError (.frame s.frameIdx))

section
variable {s t : State}

theorem execEffect_of_execStart {g : PixelGrid} (h : startTxn Config.params g s = .next t) :
    ExecEffect s (.start g) t := by
  rcases startTxn_cases h with ⟨-, rfl⟩ | ⟨-, e, he, rfl⟩ | ⟨-, hv, hb⟩
  · exact .kept (.markPv s)
  · exact .startFails he
  · exact .startRuns hv hb

theorem execEffect_of_execWriteOk (h : execWriteOk s = .next t) : ExecEffect s .writeOk t := by
  rcases execWriteOk_cases h with ⟨-, rfl⟩ | ⟨hw, hl, rfl⟩ | ⟨hw, -, b, hb, rfl⟩
  · exact .kept (.markPv s)
  · exact .lastWritten hw hl
  · exact .nextWrite hw hb

theorem execEffect_of_execWriteErr (h : execWriteErr s = .next t) : ExecEffect s .writeErr t := by
  unfold execWriteErr at h
  split at h
  · next hw => cases h; exact .writeFails hw
  · cases h; exact .kept (.markPv s)

theorem execEffect_of_execCfgSet {k : Byte} {v : CfgValue} (h : execCfgSet k v s = .next t) :
    ExecEffect s (.cfgSet k v) t := by
  unfold execCfgSet at h
  split at h
  · cases h; exact .kept (.markPv s)
  · split at h
    · next hv =>
      split at h
      · next c hc => cases h; exact .cfgWritten hv hc
      · cases h
    · cases h

theorem controlKept_of_execCfgRead {k : Byte} (h : execCfgRead k s = .next t) : ControlKept s t := by
  unfold execCfgRead at h
  split at h
  · cases h; exact .trans (.markPv s) (.reply _ _)
  · cases h; exact .reply s _

theorem controlKept_of_execKissLit {d : Byte} (h : execKissLit d s = .next t) : ControlKept s t := by
  unfold execKissLit at h
  split at h
  · cases h; exact .emitKiss s _
  · cases h

/-- Every instruction that answers a next state has one of the effects listed. -/
theorem execEffect_of_exec {i : Instr} (h : exec i s = .next t) : ExecEffect s i t := by
  cases i with
  | leader | brk | visStart | visBit | visParity | visStop | sync | porch | pixG | pixB | pixR | separator =>
    cases h; exact .kept (.runSegment s _)
  | toneSample => cases h; exact .kept (.runToneSample s)
  | seqStep => cases h; exact .kept (.runSeqStep s)
  | sampleSerialize => cases h; exact .kept (.emitSb s _)
  | addrChar | addrSsidMore | addrSsidLast | ctrlUi | pidNol3 | fcsLo | fcsHi => cases h; exact .kept (.emitFrame s _)
  | infoByte => cases h; exact .kept (.trans (.emitFrame s _) (.setChunkOff _ _))
  | crcUpdate => cases h; exact .kept (.setCrc s _)
  | kissFendOpen | kissCmdData | kissEscFend | kissEscFesc | kissFendClose => cases h; exact .kept (.emitKiss s _)
  | kissLit => exact .kept (controlKept_of_execKissLit h)
  | reset => cases h; exact .reset
  | start => exact execEffect_of_execStart h
  | cfgSet => exact execEffect_of_execCfgSet h
  | cfgRead => exact .kept (controlKept_of_execCfgRead h)
  | statusRead => cases h; exact .kept (.reply s _)
  | writeOk => exact execEffect_of_execWriteOk h
  | writeErr => exact execEffect_of_execWriteErr h
  | sinkWrite => cases h; exact .kept (.sinkWrite s _)

/-- A set PV stays set, whatever the instruction (10_state.md R35). -/
theorem ExecEffect.pv {i : Instr} (h : ExecEffect s i t) (hp : s.pv = true) : t.pv = true := by
  cases h with
  | kept h => exact h.pv hp
  | startRuns _ hb => rcases beginWrites_cases hb with ⟨-, rfl⟩ | ⟨-, b, -, rfl⟩ <;> simpa using hp
  | _ => simpa using hp

/-- Everything a step can do to the control side: it keeps it, or it takes one item off `inbox` and has the effect of the
instruction that the item decodes to. -/
theorem step_effect (h : step s = .next t) :
    ControlKept s t ∨ ∃ rest i, ExecEffect (s.withInbox rest) i t := by
  rcases step_cases h with ⟨-, rfl⟩ | ⟨it, rest, -, ⟨i, -, he⟩ | ⟨r, -, rfl⟩⟩
  · exact .inl (.refl _)
  · exact .inr ⟨rest, i, execEffect_of_exec he⟩
  · exact .inl (.trans (.withInbox s rest) (.markPv _))

end

/-! ## CFG_SET -/

section
variable {c c' : ConfigRegs} {k : Byte} {v : CfgValue}

@[simp] theorem Reg.write_set {α : Type} (r : Reg α) (v : α) : (r.write v).set = true := rfl
@[simp] theorem Reg.write_value {α : Type} (r : Reg α) (v : α) : (r.write v).value = v := rfl

/-- Everything the write of a configuration register can do (44_cycle_control.md R281). -/
theorem writeCfg_cases (h : writeCfg c k v = some c') :
    (∃ b, k.toNat = 0 ∧ v = .str b ∧ c' = { c with dstCall := c.dstCall.write b }) ∨
      (∃ n, k.toNat = 1 ∧ v = .u8 n ∧ c' = { c with dstSsid := c.dstSsid.write n }) ∨
      (∃ b, k.toNat = 2 ∧ v = .str b ∧ c' = { c with srcCall := c.srcCall.write b }) ∨
      (∃ n, k.toNat = 3 ∧ v = .u8 n ∧ c' = { c with srcSsid := c.srcSsid.write n }) ∨
      (∃ n, k.toNat = 4 ∧ v = .u16 n ∧ c' = { c with maxPayload := c.maxPayload.write n }) ∨
      (∃ n, k.toNat = 5 ∧ v = .u32 n ∧ c' = { c with sampleRate := c.sampleRate.write n }) := by
  unfold writeCfg at h
  split at h <;> simp_all [eq_comm]

/-- A write clears no set bit. -/
theorem setBit_of_writeCfg (h : writeCfg c k v = some c') (j : Nat) (hj : Claims.setBit c j = true) :
    Claims.setBit c' j = true := by
  rcases writeCfg_cases h with ⟨_, _, _, rfl⟩ | ⟨_, _, _, rfl⟩ | ⟨_, _, _, rfl⟩ | ⟨_, _, _, rfl⟩ | ⟨_, _, _, rfl⟩ |
    ⟨_, _, _, rfl⟩
  all_goals revert hj; unfold Claims.setBit; split <;> simp

/-- A string of at most 255 bytes, the only kind a callsign register takes (R281), keeps both registers within their size. -/
theorem callsigns_of_writeCfg (h : writeCfg c k v = some c') (hv : cfgShapeOk k v = true)
    (hd : c.dstCall.value.length ≤ 255) (hs : c.srcCall.value.length ≤ 255) :
    c'.dstCall.value.length ≤ 255 ∧ c'.srcCall.value.length ≤ 255 := by
  rcases writeCfg_cases h with ⟨b, hk, rfl, rfl⟩ | ⟨_, _, _, rfl⟩ | ⟨b, hk, rfl, rfl⟩ | ⟨_, _, _, rfl⟩ |
    ⟨_, _, _, rfl⟩ | ⟨_, _, _, rfl⟩
  case inl => exact ⟨by simpa [cfgShapeOk, hk] using hv, hs⟩
  case inr.inr.inl => exact ⟨hd, by simpa [cfgShapeOk, hk] using hv⟩
  all_goals exact ⟨hd, hs⟩

/-- CFG_SET's write finds the register of a value of its width. -/
theorem writeCfg_isSome (c : ConfigRegs) (hk : k.toNat < 6) (hv : cfgShapeOk k v = true) :
    ∃ c', writeCfg c k v = some c' := by
  unfold cfgShapeOk at hv
  unfold writeCfg
  split at hv <;> simp_all
  omega

end

/-! ## The frames of a cycle -/

/-- From its initialisation, R164's walk emits the samples that R158 and R161 define. -/
theorem seqWalk_samples (P : Params) {fs : Nat} (hfs : rateLegal fs = true) (g : PixelGrid) (r : SeqRegs) :
    (seqWalk P fs g r).2 = incSamples P 0 (sampleIncs P fs 0 (schedule P g)) := by
  have hT : totalNs P < 2 ^ 37 := by unfold totalNs; split <;> norm_num
  have hN : sampleAt fs (totalNs P) < 2 ^ 32 := (sampleCount_lt P hfs).trans_lt (by norm_num)
  have h0 : (seqInit r).tNs.toNat = 0 := rfl
  obtain ⟨hx, -⟩ := segLoop_spec P fs (schedule P g) (seqInit r) [] (two_pow_phaseBits_pos P) (sampleAt_zero fs).symm
    (by rwa [h0, Nat.zero_add, totalDur_schedule]) (by rwa [h0, Nat.zero_add, totalDur_schedule])
  exact hx

/-- The walk emits N samples (41_sstv_tone_sequencer.md R159). -/
theorem seqWalk_samples_length (P : Params) {fs : Nat} (hfs : rateLegal fs = true) (g : PixelGrid) (r : SeqRegs) :
    (seqWalk P fs g r).2.length = sampleCount P fs := by
  rw [seqWalk_samples P hfs, incSamples, List.length_map, List.length_range, sampleIncs_length, Nat.zero_add,
    totalDur_schedule, sampleAt_zero, Nat.sub_zero, sampleCount]

/-- A stream has at most one frame per byte. -/
theorem framesOf_length_le {lc : ConfigValues} (hm : lc.maxPayload.toNat ≠ 0) (sb : Bytes) :
    (framesOf lc sb).length ≤ sb.length := by
  rw [framesOf, List.length_map, ax25_length, ceilDiv_le_iff (Nat.pos_of_ne_zero hm)]
  exact Nat.le_mul_of_pos_right _ (Nat.pos_of_ne_zero hm)

/-- The frames of a cycle with a legal rate and a payload size are few enough for FRAMES_TOTAL to count them (10_state.md
R32). -/
theorem computeFrames_framesTotal_toNat (P : Params) {s : State} (hm : s.lcfg.maxPayload.toNat ≠ 0)
    (hfs : rateLegal s.lcfg.sampleRate.toNat = true) :
    (computeFrames P s).framesTotal.toNat = (computeFrames P s).fq.length := by
  rw [computeFrames_framesTotal, BitVec.toNat_ofNat, computeFrames_fq]
  refine Nat.mod_eq_of_lt ((framesOf_length_le hm _).trans_lt ?_)
  have hN := sampleCount_lt P hfs
  rw [serialStream_length, seqWalk_samples_length P hfs]
  omega

/-! ## The invariant -/

section
variable {s t : State}

/-! What the status says in each STATE. -/

theorem statusConsistent_of_idle (h : s.ctl = .idle) :
    s.statusConsistent ↔ s.errCode = .none ∧ s.fq = [] ∧ s.framesTotal = 0 := by
  simp [State.statusConsistent, h]

theorem statusConsistent_of_waitWrite (h : s.ctl = .waitWrite) :
    s.statusConsistent ↔
      s.errCode = .none ∧ s.framesTotal.toNat = s.fq.length ∧ s.frameIdx.toNat < s.fq.length := by
  simp [State.statusConsistent, h]

theorem statusConsistent_of_done (h : s.ctl = .done) :
    s.statusConsistent ↔ s.errCode = .none ∧ s.fq = [] ∧ s.framesWritten = s.framesTotal := by
  simp [State.statusConsistent, h]

theorem statusConsistent_of_error (h : s.ctl = .error) : s.statusConsistent ↔ s.errCode ≠ .none ∧ s.fq = [] := by
  simp [State.statusConsistent, h]

theorem State.Inv.of_kept (hs : s.Inv) (h : ControlKept s t) : t.Inv where
  status := by
    simpa only [State.statusConsistent, h.ctl, h.errCode, h.fq, h.framesTotal, h.framesWritten, h.frameIdx] using hs.status
  counters := by
    simpa only [State.countersConsistent, h.framesWritten, h.framesTotal, h.frameIdx] using hs.counters
  detail := by simpa only [h.errCode, h.errDetail] using hs.detail
  phase := h.phase hs.phase
  callsigns := by simpa only [State.callsignsFit, h.cfg] using hs.callsigns

theorem reset_inv : State.reset.Inv where
  status := (statusConsistent_of_idle rfl).2 ⟨rfl, rfl, rfl⟩
  counters := ⟨le_rfl, rfl⟩
  detail := trivial
  phase := ⟨two_pow_phaseBits_pos _, two_pow_phaseBits_pos _⟩
  callsigns := ⟨Nat.zero_le _, Nat.zero_le _⟩

/-- RESET leaves the invariant's part of the state as it is at power-on. -/
theorem resetKeeping_inv (s : State) : s.resetKeeping.Inv where
  status := reset_inv.status
  counters := reset_inv.counters
  detail := reset_inv.detail
  phase := reset_inv.phase
  callsigns := reset_inv.callsigns

theorem withCfg_inv (hs : s.Inv) {k : Byte} {v : CfgValue} {c : ConfigRegs} (hv : cfgShapeOk k v = true)
    (hc : writeCfg s.cfg k v = some c) : (s.withCfg c).Inv where
  status := hs.status
  counters := hs.counters
  detail := hs.detail
  phase := hs.phase
  callsigns := callsigns_of_writeCfg hc hv hs.callsigns.1 hs.callsigns.2

theorem raiseError_inv (hc : s.countersConsistent) (hp : s.phaseFits) (hs : s.callsignsFit) {code : ErrCode}
    {detail : ErrDetail} (hne : code ≠ .none) (hm : errMatches code detail) : (s.raiseError code detail).Inv where
  status := (statusConsistent_of_error rfl).2 ⟨hne, rfl⟩
  counters := hc
  detail := hm
  phase := hp
  callsigns := hs

/-- An error that START's checks find is a true error, with the detail of its code (60_exceptions.md R330). -/
theorem validate_error {c : ConfigRegs} {g : PixelGrid} {e : CycleError} (h : validate c g = some e) :
    e.code ≠ .none ∧ errMatches e.code e.detail := by
  obtain ⟨code, detail⟩ := e
  rcases errMatches_of_validate h with ⟨rfl, _, _, rfl⟩ | ⟨rfl, rfl⟩ | ⟨rfl, _, _, rfl⟩ <;> exact ⟨nofun, trivial⟩

/-- A START that passes its checks counts its frames (44_cycle_control.md R283). -/
theorem framesTotal_of_validate {g : PixelGrid} (h : validate s.cfg g = none) (P : Params) :
    (computeFrames P (s.latch g).clearStatus).framesTotal.toNat
      = (computeFrames P (s.latch g).clearStatus).fq.length := by
  obtain ⟨hset, hm, hfs, -⟩ := (validate_eq_none_iff _ _).1 h
  have hl : (s.latch g).clearStatus.lcfg = latchCfg s.cfg s.lcfg := rfl
  rw [latchCfg_of_set hset] at hl
  exact computeFrames_framesTotal_toNat P (by rw [hl]; exact hm) (by rw [hl]; exact hfs)

/-- START's end, on a queue just filled, meets the invariant in DONE as in WAIT_WRITE. -/
theorem beginWrites_inv (hcode : s.errCode = .none) (hdetail : s.errDetail = .none) (hw : s.framesWritten = 0)
    (hi : s.frameIdx = 0) (hn : s.framesTotal.toNat = s.fq.length) (hp : s.phaseFits) (hcs : s.callsignsFit)
    (h : beginWrites s = .next t) : t.Inv := by
  have hcount : s.countersConsistent := ⟨by simp [hw], hw.trans hi.symm⟩
  have hmatch : errMatches s.errCode s.errDetail := by rw [hcode, hdetail]; trivial
  rcases beginWrites_cases h with ⟨h0, rfl⟩ | ⟨-, b, hb, rfl⟩
  · exact ⟨(statusConsistent_of_done rfl).2 ⟨hcode, rfl, hw.trans h0.symm⟩, hcount, hmatch, hp, hcs⟩
  · have hlt : s.frameIdx.toNat < s.fq.length := (List.getElem?_eq_some_iff.1 hb).1
    exact ⟨(statusConsistent_of_waitWrite rfl).2 ⟨hcode, hn, hlt⟩, hcount, hmatch, hp, hcs⟩

theorem startRuns_inv (hs : s.Inv) {g : PixelGrid} (hv : validate s.cfg g = none)
    (h : beginWrites (computeFrames Config.params (s.latch g).clearStatus) = .next t) : t.Inv := by
  refine beginWrites_inv (by simp) (by simp) (by simp) (by simp) (framesTotal_of_validate hv _) ?_ ?_ h
  · rw [State.phaseFits, computeFrames_seq]
    exact seqWalk_fits _ _ _ hs.phase.2
  · rw [State.callsignsFit, computeFrames_cfg]
    exact hs.callsigns

/-- The last frame is accepted: FRAMES_WRITTEN reaches FRAMES_TOTAL (44_cycle_control.md R287). -/
theorem lastWritten_inv (hs : s.Inv) (hw : s.ctl = .waitWrite) (hl : s.frameIdx + 1 = s.framesTotal) :
    s.countWritten.complete.Inv := by
  obtain ⟨hcode, -, -⟩ := (statusConsistent_of_waitWrite hw).1 hs.status
  have hadd : s.framesWritten + 1 = s.frameIdx + 1 := congrArg (· + 1) hs.counters.2
  have hall : s.framesWritten + 1 = s.framesTotal := hadd.trans hl
  exact
    { status := (statusConsistent_of_done rfl).2 ⟨hcode, rfl, hall⟩
      counters := ⟨(congrArg BitVec.toNat hall).le, hadd⟩
      detail := hs.detail
      phase := hs.phase
      callsigns := hs.callsigns }

/-- A frame is accepted and the next one handed over (R287). -/
theorem nextWrite_inv (hs : s.Inv) (hw : s.ctl = .waitWrite) {b : Bytes}
    (hb : s.fq[(s.frameIdx + 1).toNat]? = some b) : (s.countWritten.sinkWrite b).Inv := by
  obtain ⟨hcode, hn, -⟩ := (statusConsistent_of_waitWrite hw).1 hs.status
  have hadd : s.framesWritten + 1 = s.frameIdx + 1 := congrArg (· + 1) hs.counters.2
  have hlt : (s.frameIdx + 1).toNat < s.fq.length := (List.getElem?_eq_some_iff.1 hb).1
  exact
    { status := (statusConsistent_of_waitWrite (s := s.countWritten.sinkWrite b) hw).2 ⟨hcode, hn, hlt⟩
      counters := ⟨(congrArg BitVec.toNat hadd).trans_le (hlt.le.trans_eq hn.symm), hadd⟩
      detail := hs.detail
      phase := hs.phase
      callsigns := hs.callsigns }

/-- Every effect of an instruction keeps the invariant. -/
theorem ExecEffect.inv {i : Instr} (h : ExecEffect s i t) (hs : s.Inv) : t.Inv := by
  cases h with
  | kept h => exact hs.of_kept h
  | reset => exact resetKeeping_inv s
  | cfgWritten hv hc => exact withCfg_inv hs hv hc
  | startFails he =>
    obtain ⟨hne, hm⟩ := validate_error he
    exact raiseError_inv (s := (s.latch _).clearStatus) ⟨le_rfl, rfl⟩ hs.phase hs.callsigns hne hm
  | startRuns hv hb => exact startRuns_inv hs hv hb
  | lastWritten hw hl => exact lastWritten_inv hs hw hl
  | nextWrite hw hb => exact nextWrite_inv hs hw hb
  | writeFails => exact raiseError_inv hs.counters hs.phase hs.callsigns nofun trivial

end

/-! ## No stop under the invariant -/

section
variable {s : State}

theorem execStart_isNext (s : State) (g : PixelGrid) : ∃ t, execStart g s = .next t := by
  unfold execStart startTxn
  split
  · exact ⟨_, rfl⟩
  · unfold startCycle
    split
    · exact ⟨_, rfl⟩
    · exact beginWrites_isNext (by simp) (by simp)

/-- In WAIT_WRITE the queue holds a frame after the outstanding one, unless that is the last (10_state.md R33, R34). -/
theorem execWriteOk_isNext (hs : s.Inv) : ∃ t, execWriteOk s = .next t := by
  unfold execWriteOk
  split
  · next hw =>
    obtain ⟨-, hn, hlt⟩ := (statusConsistent_of_waitWrite hw).1 hs.status
    split
    · exact ⟨_, rfl⟩
    · next hl =>
      have hnext : (s.frameIdx + 1).toNat < s.fq.length := by
        have : s.frameIdx.toNat + 1 ≠ s.framesTotal.toNat := fun h => hl (by bv_omega)
        bv_omega
      exact ⟨_, issueWrite_of_lt s.countWritten hnext⟩
  · exact ⟨_, rfl⟩

theorem execWriteErr_isNext (s : State) : ∃ t, execWriteErr s = .next t := by
  unfold execWriteErr
  split <;> exact ⟨_, rfl⟩

theorem execCfgRead_isNext (k : Byte) (s : State) : ∃ t, execCfgRead k s = .next t := by
  unfold execCfgRead
  split <;> exact ⟨_, rfl⟩

theorem execCfgSet_isNext {k : Byte} {v : CfgValue} (hv : cfgShapeOk k v = true) (s : State) :
    ∃ t, execCfgSet k v s = .next t := by
  by_cases hk : 6 ≤ k.toNat
  · exact ⟨_, if_pos hk⟩
  · obtain ⟨c, hc⟩ := writeCfg_isSome s.cfg (not_le.1 hk) hv
    exact ⟨s.withCfg c, by simp [execCfgSet, hk, hv, hc]⟩

/-- Every well-formed instruction answers a next state; only WRITE_OK needs the invariant. -/
theorem exec_isNext (hs : s.Inv) {i : Instr} (hi : i.wellFormed = true) : ∃ t, exec i s = .next t := by
  cases i with
  | start g => exact execStart_isNext s g
  | cfgSet k v => exact execCfgSet_isNext hi s
  | cfgRead k => exact execCfgRead_isNext k s
  | writeOk => exact execWriteOk_isNext hs
  | writeErr => exact execWriteErr_isNext s
  | kissLit d => exact ⟨_, if_pos hi⟩
  | _ => exact ⟨_, rfl⟩

end

/-! ## Who writes the configuration, the status and the latched copies -/

section
variable {s t : State} {i : Instr}

/-- Only RESET clears a set bit of `cfg` (10_state.md R25). -/
theorem ExecEffect.setBit (h : ExecEffect s i t) (hr : i ≠ .reset) (k : Nat) (hk : Claims.setBit s.cfg k = true) :
    Claims.setBit t.cfg k = true := by
  cases h with
  | reset => exact absurd rfl hr
  | kept h => rwa [h.cfg]
  | cfgWritten _ hc => exact setBit_of_writeCfg hc k hk
  | startRuns _ hb => rcases beginWrites_cases hb with ⟨-, rfl⟩ | ⟨-, b, -, rfl⟩ <;> simpa using hk
  | startFails | lastWritten | nextWrite | writeFails => exact hk

/-- Only RESET and CFG_SET write `cfg` (R25). -/
theorem ExecEffect.cfg (h : ExecEffect s i t) (hr : i ≠ .reset) (hc : ∀ k v, i ≠ .cfgSet k v) : t.cfg = s.cfg := by
  cases h with
  | reset => exact absurd rfl hr
  | cfgWritten => exact absurd rfl (hc _ _)
  | kept h => exact h.cfg
  | startRuns _ hb => rcases beginWrites_cases hb with ⟨-, rfl⟩ | ⟨-, b, -, rfl⟩ <;> simp
  | startFails | lastWritten | nextWrite | writeFails => rfl

/-- Only RESET and START write the latched copies (R26, R27). -/
theorem ExecEffect.latched (h : ExecEffect s i t) (hr : i ≠ .reset) (hst : ∀ g, i ≠ .start g) :
    t.lcfg = s.lcfg ∧ t.grid = s.grid := by
  cases h with
  | reset => exact absurd rfl hr
  | startFails | startRuns => exact absurd rfl (hst _)
  | kept h => exact ⟨h.lcfg, h.grid⟩
  | cfgWritten | lastWritten | nextWrite | writeFails => exact ⟨rfl, rfl⟩

/-- Only RESET, START and the two answers write the status, the queue and the position (R28, R33, R34). -/
theorem ExecEffect.status (h : ExecEffect s i t) (hr : i ≠ .reset) (hst : ∀ g, i ≠ .start g) (hok : i ≠ .writeOk)
    (herr : i ≠ .writeErr) :
    t.ctl = s.ctl ∧ t.errCode = s.errCode ∧ t.errDetail = s.errDetail ∧ t.framesTotal = s.framesTotal ∧
      t.framesWritten = s.framesWritten ∧ t.fq = s.fq ∧ t.frameIdx = s.frameIdx := by
  cases h with
  | reset => exact absurd rfl hr
  | startFails | startRuns => exact absurd rfl (hst _)
  | lastWritten | nextWrite => exact absurd rfl hok
  | writeFails => exact absurd rfl herr
  | kept h => exact ⟨h.ctl, h.errCode, h.errDetail, h.framesTotal, h.framesWritten, h.fq, h.frameIdx⟩
  | cfgWritten => exact ⟨rfl, rfl, rfl, rfl, rfl, rfl, rfl⟩

end

/-! ## The obligations -/

/-- Settles O4: a step keeps the control side of the state or has one instruction's effect, and both keep the invariant. -/
theorem everyStepKeepsTheInvariant : Obligations.EveryStepKeepsTheInvariant := by
  intro s t hs h
  rcases step_effect h with hk | ⟨rest, i, he⟩
  · exact hs.of_kept hk
  · exact he.inv (hs.of_kept (.withInbox s rest))

/-- Settles O5, by the cases of the instruction: WRITE_OK finds its frame because the queue is as long as FRAMES_TOTAL says. -/
theorem invariantStatesNeverStop : Obligations.InvariantStatesNeverStop :=
  fun _ _ hs hi => exec_isNext hs hi

/-- Settles O12: no effect of an instruction clears PV, RESET included. -/
theorem protocolViolationMarkIsSticky : Obligations.ProtocolViolationMarkIsSticky := by
  intro s t h hp
  rcases step_effect h with hk | ⟨rest, i, he⟩
  · exact hk.pv hp
  · exact he.pv hp

/-- Settles O14, by the effects an instruction can have: a write of a register sets its bit, and only RESET clears one. -/
theorem configurationKeptByAllButCfgSetAndReset : Obligations.ConfigurationKeptByAllButCfgSetAndReset := by
  intro i s t h hr
  have he := execEffect_of_exec h
  exact ⟨fun k _ => he.setBit hr k, he.cfg hr⟩

/-- Settles O15, by the effects an instruction can have. -/
theorem statusWrittenByControllerOnly : Obligations.StatusWrittenByControllerOnly := by
  intro i s t h hr hst
  have he := execEffect_of_exec h
  exact ⟨he.latched hr hst, he.status hr hst⟩

/-- Settles O3: the reset state is an idle one with no frames and a zero sequencer. -/
theorem invariantHoldsAtReset : Obligations.InvariantHoldsAtReset := reset_inv

end Sys2Proof.Machine

namespace Sys2Proof.Machine

/-! ## The byte sink

Three instructions write to the sink: START, WRITE_OK and SINK_WRITE (20_memory.md R70). Every other one keeps it. -/

section
variable {s t : State}

/-- Everything CFG_SET can do (44_cycle_control.md R281). -/
theorem execCfgSet_cases {k : Byte} {v : CfgValue} (h : execCfgSet k v s = .next t) :
    (6 ≤ k.toNat ∧ t = s.markPv) ∨
      (¬6 ≤ k.toNat ∧ cfgShapeOk k v = true ∧ ∃ c, writeCfg s.cfg k v = some c ∧ t = s.withCfg c) := by
  unfold execCfgSet at h
  split at h
  · next hk => cases h; exact .inl ⟨hk, rfl⟩
  · next hk =>
    split at h
    · next hv =>
      split at h
      · next c hc => cases h; exact .inr ⟨hk, hv, c, hc, rfl⟩
      · cases h
    · cases h

/-- Everything CFG_READ can do (R282). -/
theorem execCfgRead_cases {k : Byte} (h : execCfgRead k s = .next t) :
    (6 ≤ k.toNat ∧ t = s.markPv.reply (.cfg k none)) ∨
      (¬6 ≤ k.toNat ∧ t = s.reply (.cfg k (readCfg s.cfg k))) := by
  unfold execCfgRead at h
  split at h
  · next hk => cases h; exact .inl ⟨hk, rfl⟩
  · next hk => cases h; exact .inr ⟨hk, rfl⟩

/-- Everything WRITE_ERR can do (R288, R289). -/
theorem execWriteErr_cases (h : execWriteErr s = .next t) :
    (s.ctl ≠ .waitWrite ∧ t = s.markPv) ∨
      (s.ctl = .waitWrite ∧ t = s.raiseError .transportError (.frame s.frameIdx)) := by
  unfold execWriteErr at h
  split at h
  · next hw => cases h; exact .inr ⟨hw, rfl⟩
  · next hw => cases h; exact .inl ⟨hw, rfl⟩

/-- KISS_LIT answers for a byte that needs no escape (43_kiss_encoder.md R253). -/
theorem execKissLit_eq_next_iff {d : Byte} :
    execKissLit d s = .next t ↔ kissLiteral d = true ∧ t = s.emitKiss [d] := by
  unfold execKissLit
  split
  · next hd => simp [hd, eq_comm]
  · next hd => simp [hd]

/-! The instructions that keep the sink. -/

theorem execCfgSet_sink {k : Byte} {v : CfgValue} (h : execCfgSet k v s = .next t) : t.sink = s.sink := by
  rcases execCfgSet_cases h with ⟨-, rfl⟩ | ⟨-, -, c, -, rfl⟩ <;> rfl

theorem execCfgRead_sink {k : Byte} (h : execCfgRead k s = .next t) : t.sink = s.sink := by
  rcases execCfgRead_cases h with ⟨-, rfl⟩ | ⟨-, rfl⟩ <;> rfl

theorem execWriteErr_sink (h : execWriteErr s = .next t) : t.sink = s.sink := by
  rcases execWriteErr_cases h with ⟨-, rfl⟩ | ⟨-, rfl⟩ <;> rfl

theorem execKissLit_sink {d : Byte} (h : execKissLit d s = .next t) : t.sink = s.sink := by
  obtain ⟨-, rfl⟩ := execKissLit_eq_next_iff.1 h
  rfl

/-- Only START, WRITE_OK and SINK_WRITE write to the sink; RESET keeps it too (44_cycle_control.md R292). -/
theorem exec_sink_of_not_writer {i : Instr} (h : exec i s = .next t) (hst : ∀ g, i ≠ .start g) (hok : i ≠ .writeOk)
    (hsw : ∀ b, i ≠ .sinkWrite b) : t.sink = s.sink := by
  cases i with
  | start => exact absurd rfl (hst _)
  | writeOk => exact absurd rfl hok
  | sinkWrite => exact absurd rfl (hsw _)
  | cfgSet => exact execCfgSet_sink h
  | cfgRead => exact execCfgRead_sink h
  | writeErr => exact execWriteErr_sink h
  | kissLit => exact execKissLit_sink h
  | leader | brk | visStart | visBit | visParity | visStop | sync | porch | pixG | pixB | pixR | separator | toneSample
    | seqStep => cases h; exact State.runUnit_sink s _
  | _ => cases h; rfl

/-! The instructions that write to it. -/

/-- The sink of `t` is that of `s`, or that and one more byte string. -/
def SinkGrowsByAtMostOne (s t : State) : Prop := t.sink = s.sink ∨ ∃ b, t.sink = s.sink ++ [b]

/-- START hands over the first frame, or none where an error or an empty queue ends the cycle at once (R283, R291). -/
theorem startTxn_sinkGrowsByAtMostOne {P : Params} {g : PixelGrid} (h : startTxn P g s = .next t) :
    SinkGrowsByAtMostOne s t := by
  rcases startTxn_cases h with ⟨-, rfl⟩ | ⟨-, e, -, rfl⟩ | ⟨-, -, hb⟩
  · exact .inl rfl
  · exact .inl rfl
  · rcases beginWrites_cases hb with ⟨-, rfl⟩ | ⟨-, b, -, rfl⟩
    · exact .inl (by simp)
    · exact .inr ⟨b, by simp⟩

/-- WRITE_OK hands over the next frame, or none after the last one (R287). -/
theorem execWriteOk_sinkGrowsByAtMostOne (h : execWriteOk s = .next t) : SinkGrowsByAtMostOne s t := by
  rcases execWriteOk_cases h with ⟨-, rfl⟩ | ⟨-, -, rfl⟩ | ⟨-, -, b, -, rfl⟩
  · exact .inl rfl
  · exact .inl rfl
  · exact .inr ⟨b, rfl⟩

theorem exec_sinkGrowsByAtMostOne {i : Instr} (h : exec i s = .next t) : SinkGrowsByAtMostOne s t := by
  cases i with
  | start => exact startTxn_sinkGrowsByAtMostOne h
  | writeOk => exact execWriteOk_sinkGrowsByAtMostOne h
  | sinkWrite b => cases h; exact .inr ⟨b, rfl⟩
  | _ => exact .inl (exec_sink_of_not_writer h nofun nofun nofun)

end

/-- Settles O16: a step waits, runs one instruction on the state without its item, or marks a protocol violation, and only the
instruction can reach the sink. -/
theorem stepHandsOverAtMostOneWrite : Obligations.StepHandsOverAtMostOneWrite := by
  intro s t h
  rcases step_cases h with ⟨-, rfl⟩ | ⟨it, rest, -, ⟨i, -, he⟩ | ⟨r, -, rfl⟩⟩
  · exact .inl rfl
  · exact exec_sinkGrowsByAtMostOne (s := s.withInbox rest) he
  · exact .inl rfl

end Sys2Proof.Machine

namespace Sys2Proof.Machine

/-! ## Words and their fields

The bytes of a 16-bit word, the fields of a segment descriptor and of an address byte, each read back from the word that
was put together from it (30_encoding.md R91, R99, R100). -/

theorem lowByte_eq_ofNat (v : BitVec 16) : lowByte v = BitVec.ofNat 8 (v.toNat % 256) :=
  BitVec.eq_of_toNat_eq (by simp)

theorem highByte_eq_ofNat (v : BitVec 16) : highByte v = BitVec.ofNat 8 (v.toNat / 256) := by
  have := v.isLt
  refine BitVec.eq_of_toNat_eq ?_
  rw [highByte_toNat, BitVec.toNat_ofNat]
  omega

@[simp] theorem highByte_word16 (hi lo : Byte) : highByte (word16 hi lo) = hi := by
  refine BitVec.eq_of_toNat_eq ?_
  rw [highByte_toNat, word16_toNat]
  omega

@[simp] theorem lowByte_word16 (hi lo : Byte) : lowByte (word16 hi lo) = lo := by
  refine BitVec.eq_of_toNat_eq ?_
  rw [lowByte_toNat, word16_toNat]
  omega

@[simp] theorem word16_highByte_lowByte (v : BitVec 16) : word16 (highByte v) (lowByte v) = v := by
  refine BitVec.eq_of_toNat_eq ?_
  rw [word16_toNat, highByte_toNat, lowByte_toNat]
  omega

/-! Segment descriptors (R91, R92). -/

theorem segKind_eq (w : BitVec 16) : segKind w = w.toNat / 4096 := by
  rw [segKind, BitVec.toNat_ushiftRight, Nat.shiftRight_eq_div_pow]

theorem segReserved_eq_zero_iff (w : BitVec 16) : segReserved w = 0#4 ↔ w.toNat / 256 % 16 = 0 := by
  rw [← BitVec.toNat_inj, segReserved, BitVec.toNat_setWidth, BitVec.toNat_ushiftRight, Nat.shiftRight_eq_div_pow]
  rfl

/-- The kind of a segment in the table of R92. -/
def kindOf : Segment → Nat
  | .leader => 0
  | .brk => 1
  | .visStart => 2
  | .visBit _ => 3
  | .visParity _ => 4
  | .visStop => 5
  | .sync => 6
  | .porch => 7
  | .pixG _ => 8
  | .pixB _ => 9
  | .pixR _ => 10
  | .separator => 11

/-- The argument of a segment in the table of R92. -/
def argOf : Segment → Byte
  | .visBit bit | .visParity bit => (BitVec.ofBool bit).setWidth 8
  | .pixG v | .pixB v | .pixR v => v
  | _ => 0#8

theorem segWord_eq_append (sg : Segment) : segWord sg = BitVec.ofNat 4 (kindOf sg) ++ 0#4 ++ argOf sg := by
  cases sg <;> rfl

theorem kindOf_lt (sg : Segment) : kindOf sg < 12 := by cases sg <;> simp [kindOf]

theorem segWord_toNat (sg : Segment) : (segWord sg).toNat = kindOf sg * 4096 + (argOf sg).toNat := by
  have hk := kindOf_lt sg
  rw [segWord_eq_append, BitVec.toNat_append, ← Nat.shiftLeft_add_eq_or_of_lt (argOf sg).isLt, BitVec.toNat_append,
    ← Nat.shiftLeft_add_eq_or_of_lt (by decide), BitVec.toNat_ofNat, Nat.shiftLeft_eq, Nat.shiftLeft_eq]
  simp only [BitVec.toNat_ofNat]
  omega

/-- An argument whose bits 7:1 are 0 is its bit 0. -/
theorem setWidth_ofBool_getLsbD_zero {arg : Byte} (h : arg >>> 1 = 0#8) :
    (BitVec.ofBool (arg.getLsbD 0)).setWidth 8 = arg := by
  revert arg
  decide

theorem segmentOfKind_kindOf_argOf (sg : Segment) : segmentOfKind (kindOf sg) (argOf sg) = some sg := by
  cases sg with
  | visBit bit | visParity bit => cases bit <;> rfl
  | _ => rfl

/-- A kind and an argument name a segment exactly when they are its own: the table of R92 is one to one. -/
theorem segmentOfKind_eq_some_iff {kind : Nat} {arg : Byte} {sg : Segment} :
    segmentOfKind kind arg = some sg ↔ kindOf sg = kind ∧ argOf sg = arg := by
  constructor
  · intro h
    unfold segmentOfKind at h
    split at h
    -- the pixels take any argument, a kind of 12 and above none
    case h_9 | h_10 | h_11 => cases h; exact ⟨rfl, rfl⟩
    case h_13 => cases h
    -- VIS_BIT and VIS_PARITY take a bit
    case h_4 | h_5 =>
      split at h
      · next hb => cases h; exact ⟨rfl, setWidth_ofBool_getLsbD_zero hb⟩
      · cases h
    -- every other kind takes 0 only
    all_goals
      split at h
      · next ha => cases h; exact ⟨rfl, ha.symm⟩
      · cases h
  · rintro ⟨rfl, rfl⟩
    exact segmentOfKind_kindOf_argOf sg

/-- A word names a segment exactly when it is the descriptor of that segment. -/
theorem segmentOfWord_eq_some_iff {w : BitVec 16} {sg : Segment} : segmentOfWord w = some sg ↔ segWord sg = w := by
  have hk := kindOf_lt sg
  have ha := (argOf sg).isLt
  rw [segmentOfWord, Option.ite_none_right_eq_some, segmentOfKind_eq_some_iff, segReserved_eq_zero_iff, segKind_eq,
    ← BitVec.toNat_inj, ← BitVec.toNat_inj, lowByte_toNat, segWord_toNat]
  omega

/-- R93's malformed arguments, by kind. -/
theorem segmentOfKind_eq_none_iff (kind : Nat) (arg : Byte) : segmentOfKind kind arg = none ↔
    12 ≤ kind ∨ (arg.toNat ≠ 0 ∧ kind ∈ [0, 1, 2, 5, 6, 7, 11]) ∨ (2 ≤ arg.toNat ∧ kind ∈ [3, 4]) := by
  have hz : arg = 0#8 ↔ arg.toNat = 0 := by rw [← BitVec.toNat_inj]; rfl
  have hb : arg >>> 1 = 0#8 ↔ arg.toNat < 2 := by
    rw [← BitVec.toNat_inj, BitVec.toNat_ushiftRight, Nat.shiftRight_eq_div_pow]
    simp only [BitVec.toNat_ofNat]
    omega
  unfold segmentOfKind
  split
  case h_13 =>
    refine iff_of_true rfl (.inl ?_)
    simp only [imp_false] at *
    omega
  all_goals simp [hz, hb, Nat.succ_le_iff]

/-- A word names no segment exactly when it is reserved or malformed (R93). -/
theorem segmentOfWord_word16_eq_none_iff (hi lo : Byte) : segmentOfWord (word16 hi lo) = none ↔
    12 ≤ hi.toNat / 16 ∨ hi.toNat % 16 ≠ 0 ∨ (lo.toNat ≠ 0 ∧ hi.toNat / 16 ∈ [0, 1, 2, 5, 6, 7, 11]) ∨
      (2 ≤ lo.toNat ∧ hi.toNat / 16 ∈ [3, 4]) := by
  have hr : segReserved (word16 hi lo) = 0#4 ↔ hi.toNat % 16 = 0 := by
    rw [segReserved_eq_zero_iff, word16_toNat]; omega
  have hk : segKind (word16 hi lo) = hi.toNat / 16 := by rw [segKind_eq, word16_toNat]; omega
  rw [segmentOfWord, hk, lowByte_word16]
  by_cases h : hi.toNat % 16 = 0
  · simp [hr, h, segmentOfKind_eq_none_iff]
  · simp [hr, h]

/-! Address bytes (R99, R100). -/

@[simp] theorem charWord_toNat (ch : BitVec 7) : (charWord ch).toNat = 2 * ch.toNat := by
  rw [charWord, BitVec.toNat_append, ← Nat.shiftLeft_add_eq_or_of_lt (by decide), Nat.shiftLeft_eq]
  simp only [BitVec.toNat_ofNat]
  omega

@[simp] theorem ssidWord_toNat (ssid : BitVec 4) (x : Bool) : (ssidWord ssid x).toNat = 96 + 2 * ssid.toNat + x.toNat := by
  rw [ssidWord, BitVec.toNat_append, ← Nat.shiftLeft_add_eq_or_of_lt (BitVec.isLt _), Nat.shiftLeft_eq, BitVec.toNat_append,
    ← Nat.shiftLeft_add_eq_or_of_lt ssid.isLt, Nat.shiftLeft_eq, BitVec.toNat_ofBool]
  simp only [BitVec.toNat_ofNat]
  omega

theorem isSsidByte_iff (x : Bool) (d : Byte) : isSsidByte x d = true ↔ d.toNat / 32 = 3 ∧ d.toNat % 2 = x.toNat := by
  have hx : d.getLsbD 0 = x ↔ d.toNat % 2 = x.toNat := by
    rw [← BitVec.testBit_toNat, Nat.testBit_zero]
    cases x <;> simp
  rw [isSsidByte, Bool.and_eq_true, beq_iff_eq, beq_iff_eq, hx, ← BitVec.toNat_inj, BitVec.toNat_ushiftRight,
    Nat.shiftRight_eq_div_pow]
  rfl

@[simp] theorem ssidField_toNat (d : Byte) : (ssidField d).toNat = d.toNat / 2 % 16 := by
  rw [ssidField, BitVec.toNat_setWidth, BitVec.toNat_ushiftRight, Nat.shiftRight_eq_div_pow]

/-- A byte is a callsign character's word exactly when its bit 0 is 0 and its other bits are the character (R99). -/
theorem charWord_eq_iff {ch : BitVec 7} {d : Byte} :
    charWord ch = d ↔ d.getLsbD 0 = false ∧ (d >>> 1).setWidth 7 = ch := by
  rw [← BitVec.testBit_toNat, Nat.testBit_zero, ← BitVec.toNat_inj, ← BitVec.toNat_inj, charWord_toNat,
    BitVec.toNat_setWidth, BitVec.toNat_ushiftRight, Nat.shiftRight_eq_div_pow, decide_eq_false_iff_not]
  omega

/-- A byte is an SSID's word exactly when it is an SSID byte with that extension bit and that field (R100). -/
theorem ssidWord_eq_iff {ssid : BitVec 4} {x : Bool} {d : Byte} :
    ssidWord ssid x = d ↔ isSsidByte x d = true ∧ ssidField d = ssid := by
  have hx := x.toNat_lt
  rw [isSsidByte_iff, ← BitVec.toNat_inj, ← BitVec.toNat_inj, ssidWord_toNat, ssidField_toNat]
  omega

/-! ## The decoder and the encoder -/

/-- The instructions of the segments are encoded by their descriptors. -/
theorem encode_ofSegment (fcs : BitVec 16) (sg : Segment) : encode fcs (Instr.ofSegment sg) = some (segItem sg) := by
  cases sg <;> rfl

theorem wellFormed_ofSegment (sg : Segment) : (Instr.ofSegment sg).wellFormed = true := by cases sg <;> rfl

theorem decodePair_segment_eq_ok_iff {first second : Byte} {i : Instr} : decodePair .segment first second = .ok i ↔
    ∃ sg, segWord sg = word16 first second ∧ i = Instr.ofSegment sg := by
  simp only [decodePair, ← segmentOfWord_eq_some_iff]
  cases segmentOfWord (word16 first second) <;> simp [eq_comm]

theorem decodePair_segment_eq_reject_iff {first second : Byte} :
    decodePair .segment first second = .reject .malformedDescriptor ↔ segmentOfWord (word16 first second) = none := by
  simp only [decodePair]
  cases segmentOfWord (word16 first second) <;> simp

/-- The descriptor of a segment decodes to the segment (R91, R92). -/
theorem decode_segItem (sg : Segment) : decode (segItem sg) = .ok (Instr.ofSegment sg) :=
  decodePair_segment_eq_ok_iff.2 ⟨sg, (word16_highByte_lowByte _).symm, rfl⟩

theorem decode_charWord (ch : BitVec 7) : decode (.unit .addrChar [charWord ch]) = .ok (.addrChar ch) := by
  obtain ⟨hx, hc⟩ := charWord_eq_iff.1 (rfl : charWord ch = _)
  simp only [decode, decodeUnit, decodeByte, hx, hc, Bool.false_eq_true, if_false]

theorem decode_ssidMore (ssid : BitVec 4) :
    decode (.unit .ssidDst [ssidWord ssid false]) = .ok (.addrSsidMore ssid) := by
  obtain ⟨hx, hf⟩ := ssidWord_eq_iff.1 (rfl : ssidWord ssid false = _)
  simp [decode, decodeUnit, decodeByte, hx, hf]

theorem decode_ssidLast (ssid : BitVec 4) :
    decode (.unit .ssidSrc [ssidWord ssid true]) = .ok (.addrSsidLast ssid) := by
  obtain ⟨hx, hf⟩ := ssidWord_eq_iff.1 (rfl : ssidWord ssid true = _)
  simp [decode, decodeUnit, decodeByte, hx, hf]

theorem decode_sample (smp : Sample) :
    decode (.unit .sample [lowByte smp, highByte smp]) = .ok (.sampleSerialize smp) := by
  simp [decode, decodeUnit, decodePair]

/-- Settles O6, by the cases of the instruction: the fields of a descriptor, of a sample and of an address byte are read back
from the word they were put into, and every other item keeps its operands as they are. -/
theorem decodeOfEncodeIsTheInstruction : Obligations.DecodeOfEncodeIsTheInstruction := by
  intro fcs i it hw he
  cases i with
  | leader | brk | visStart | visBit | visParity | visStop | sync | porch | pixG | pixB | pixR | separator =>
    cases he; exact decode_segItem _
  | sampleSerialize smp => cases he; exact decode_sample smp
  | addrChar ch => cases he; exact decode_charWord ch
  | addrSsidMore ssid => cases he; exact decode_ssidMore ssid
  | addrSsidLast ssid => cases he; exact decode_ssidLast ssid
  | kissLit | cfgSet => cases he; exact if_pos hw
  | toneSample | seqStep | crcUpdate => cases he
  | _ => cases he; rfl

/-- The item is an encoding of the well-formed instruction; FCS_LO and FCS_HI, whose byte is the frame's FCS, may stand for any
byte. -/
def EncodedAs (fcs : BitVec 16) (it : Item) (i : Instr) : Prop :=
  i.wellFormed = true ∧ (i ≠ .fcsLo → i ≠ .fcsHi → encode fcs i = some it)

section
variable {fcs : BitVec 16} {it : Item} {i : Instr}

theorem EncodedAs.of_encode (hw : i.wellFormed = true) (he : encode fcs i = some it) : EncodedAs fcs it i :=
  ⟨hw, fun _ _ => he⟩

theorem encodedAs_of_decodeByte {slot : Slot} {d : Byte} (h : decodeByte slot d = .ok i) :
    EncodedAs fcs (.unit slot [d]) i := by
  cases slot with
  | segment | sample => cases h
  | fcsLo => cases h; exact ⟨rfl, fun hlo _ => absurd rfl hlo⟩
  | fcsHi => cases h; exact ⟨rfl, fun _ hhi => absurd rfl hhi⟩
  | info => cases h; exact .of_encode rfl rfl
  | addrChar =>
    simp only [decodeByte] at h
    split at h
    · cases h
    · next hd =>
      cases h
      have hc := charWord_eq_iff.2 ⟨Bool.eq_false_iff.2 hd, rfl⟩
      exact .of_encode rfl (by rw [encode, hc])
  | ssidDst | ssidSrc =>
    simp only [decodeByte] at h
    split at h
    · next hd => cases h; exact .of_encode rfl (by rw [encode, ssidWord_eq_iff.2 ⟨hd, rfl⟩])
    · cases h
  | kissData =>
    simp only [decodeByte] at h
    split at h
    · next hd => cases h; exact .of_encode hd rfl
    · cases h
  | control | pid | kissOpen | kissCommand | kissClose =>
    simp only [decodeByte] at h
    split at h
    · next hd => cases h; subst hd; exact .of_encode rfl rfl
    · cases h

theorem encodedAs_of_decodePair {slot : Slot} {first second : Byte} (h : decodePair slot first second = .ok i) :
    EncodedAs fcs (.unit slot [first, second]) i := by
  cases slot with
  | segment =>
    obtain ⟨sg, hsg, rfl⟩ := decodePair_segment_eq_ok_iff.1 h
    exact .of_encode (wellFormed_ofSegment sg) (by rw [encode_ofSegment, segItem, hsg, highByte_word16, lowByte_word16])
  | sample => cases h; exact .of_encode rfl (by rw [encode, lowByte_word16, highByte_word16])
  | kissData =>
    simp only [decodePair] at h
    split at h
    · next hd => cases h; obtain ⟨rfl, rfl⟩ := hd; exact .of_encode rfl rfl
    · split at h
      · next hd => cases h; obtain ⟨rfl, rfl⟩ := hd; exact .of_encode rfl rfl
      · cases h
  | _ => cases h

theorem encodedAs_of_decodeUnit {slot : Slot} {word : Bytes} (h : decodeUnit slot word = .ok i) :
    EncodedAs fcs (.unit slot word) i := by
  match word, h with
  | [_], h => exact encodedAs_of_decodeByte h
  | [_, _], h => exact encodedAs_of_decodePair h

theorem encodedAs_of_decodeHost {code : Byte} {arg : HostArg} (h : decodeHost code arg = .ok i) :
    EncodedAs fcs (.host code arg) i := by
  have hcode : ∀ {n}, code.toNat = n → code = BitVec.ofNat 8 n := by
    rintro _ rfl
    rw [BitVec.ofNat_toNat, BitVec.setWidth_eq]
  unfold decodeHost at h
  split at h
  case h_3 hc =>
    obtain rfl := hcode hc
    split at h
    · next hv => cases h; exact .of_encode hv rfl
    · cases h
  case h_8 => cases h
  case h_9 => split at h <;> cases h
  all_goals
    next hc =>
      cases h
      obtain rfl := hcode hc
      exact .of_encode rfl rfl

theorem encodedAs_of_decode (h : decode it = .ok i) : EncodedAs fcs it i := by
  cases it with
  | host code arg => exact encodedAs_of_decodeHost h
  | block code payload =>
    simp only [decode] at h
    split at h
    · next hc => cases h; subst hc; exact .of_encode rfl rfl
    · cases h
  | unit slot word => exact encodedAs_of_decodeUnit h

end

/-- Settles O7, by the branches of the decoder: each answers with the instruction whose word it has just recognised. -/
theorem encodeOfDecodeIsTheItem : Obligations.EncodeOfDecodeIsTheItem :=
  fun _ _ _ h => encodedAs_of_decode h

/-- A step that takes an item which is no instruction does what `onReject` says of it. -/
theorem step_of_reject {s : State} {it : Item} {rest : List Item} {r : Reject} (hi : s.inbox = it :: rest)
    (hd : decode it = .reject r) : step s = onReject r (s.withInbox rest) := by
  simp only [step, fetchNext, hi, hd]

/-- Settles O9: R93's conditions on the two bytes are those under which the descriptor's fields name no segment; the step
answers with `onReject`; and every segment, of a schedule or not, decodes from its own descriptor. -/
theorem malformedDescriptorsAreRefused : Obligations.MalformedDescriptorsAreRefused := by
  refine ⟨fun first second => ?_, fun s it rest hi hd => step_of_reject hi hd, fun _ _ sg _ => decode_segItem sg⟩
  exact decodePair_segment_eq_reject_iff.trans (segmentOfWord_word16_eq_none_iff first second)

/-- Settles O8: the decoder computes on each of the six words. -/
theorem sampleWordsDecode : Obligations.SampleWordsDecode := by
  unfold Obligations.SampleWordsDecode
  decide

/-! ## Segments and samples handed to the sequencer -/

/-- `Checked` is the check of R141 that the unit makes. -/
theorem unitChecked_iff_checked (s : State) : s.unitChecked = true ↔ Claims.Checked s := by
  rw [State.unitChecked_iff, and_assoc, and_assoc]
  rfl

/-- An instruction whose meaning is one segment runs that segment's tone (41_sstv_tone_sequencer.md R164). -/
theorem runsTone_of_runSegment {i : Instr} (sg : Segment)
    (h : ∀ s, exec i s = .next (runSegment Config.params sg s)) :
    Claims.RunsTone i (segTone sg).num (segTone sg).den (segTone sg).dur := by
  intro s hc hp
  rw [h s, runSegment_eq, State.runUnit_of_checked _ ((unitChecked_iff_checked s).2 hc), segRun_eq _ _ _ _ _ hp]
  rfl

/-- Settles O19: the three instructions run the pixel segments, whose tone is FPIX(v) in each channel. -/
theorem pixelSegments : Obligations.PixelSegments := fun v =>
  ⟨runsTone_of_runSegment (.pixG v) fun _ => rfl, runsTone_of_runSegment (.pixB v) fun _ => rfl,
    runsTone_of_runSegment (.pixR v) fun _ => rfl⟩

/-- Settles O32: the bytes appended are the sample's remainder and quotient by 256. -/
theorem sampleSerializeIsLittleEndian : Obligations.SampleSerializeIsLittleEndian := by
  intro smp s
  rw [← lowByte_eq_ofNat, ← highByte_eq_ofNat]
  rfl

/-! ## The layout of a frame

A frame taken apart at the offsets of R101: the two address fields at 0 and 7, the control byte at 14, the chunk at 16 and
the FCS after it. -/

/-- An address field is the shifted callsign and an SSID byte, 7 bytes in all (42_ax25_framer.md R205). -/
theorem addressField_length {c : Bytes} (h : c.length ≤ 6) (d : Byte) : (callField c ++ [d]).length = 7 := by
  rw [List.length_append, callField_length h, List.length_singleton]

/-- The header is the two address fields, the control byte and the PID byte (R208). -/
theorem header_eq_fields (lc : ConfigValues) : header lc =
    (callField lc.dstCall ++ [ssidMoreByte lc.dstSsid]) ++
      ((callField lc.srcCall ++ [ssidLastByte lc.srcSsid]) ++ [ctrlByte, pidByte]) := by
  simp [header]

/-- The two FCS bytes are those of the FCS of everything before them, low byte first (R212 to R215). -/
theorem ax25Frame_eq_append_fcs (hdr c : Bytes) : ax25Frame hdr c = hdr ++ c ++
    [BitVec.ofNat 8 ((fcsOf (crcOver (hdr ++ c))).toNat % 256),
      BitVec.ofNat 8 ((fcsOf (crcOver (hdr ++ c))).toNat / 256)] := by
  rw [ax25Frame, fcsLoByte, fcsHiByte, lowByte_eq_ofNat, highByte_eq_ofNat]

section
variable {lc : ConfigValues} (hd : lc.dstCall.length ≤ 6) (hs : lc.srcCall.length ≤ 6) (rest : Bytes)
include hd

theorem take_seven_header_append :
    (header lc ++ rest).take 7 = callField lc.dstCall ++ [ssidMoreByte lc.dstSsid] := by
  rw [header_eq_fields, List.append_assoc, List.take_left' (addressField_length hd _)]

theorem drop_seven_header_append : (header lc ++ rest).drop 7 =
    (callField lc.srcCall ++ [ssidLastByte lc.srcSsid]) ++ ([ctrlByte, pidByte] ++ rest) := by
  rw [header_eq_fields, List.append_assoc, List.drop_left' (addressField_length hd _), List.append_assoc]

include hs

theorem take_seven_drop_seven_header_append :
    ((header lc ++ rest).drop 7).take 7 = callField lc.srcCall ++ [ssidLastByte lc.srcSsid] := by
  rw [drop_seven_header_append hd, List.take_left' (addressField_length hs _)]

theorem drop_fourteen_header_append : (header lc ++ rest).drop 14 = ctrlByte :: pidByte :: rest := by
  rw [show 14 = 7 + 7 from rfl, ← List.drop_drop, drop_seven_header_append hd, List.drop_left' (addressField_length hs _)]
  rfl

end

/-- Settles O38: a frame is its header, a chunk and the FCS, and each offset falls in one of the header's parts, in the chunk
or in the FCS. -/
theorem frameLayout : Obligations.FrameLayout := by
  intro lc sb f hd hs hf
  obtain ⟨c, hc, rfl⟩ := List.mem_map.1 hf
  have hhdr := header_length hd hs
  have hlen : (header lc ++ c).length = 16 + c.length := by rw [List.length_append, hhdr]
  have hbody : (ax25Frame (header lc) c).take (16 + c.length) = header lc ++ c := List.take_left' hlen
  have hctl : ∀ k, (ax25Frame (header lc) c)[14 + k]? = (ctrlByte :: pidByte :: (c ++ _))[k]? := fun k => by
    rw [ax25Frame, List.append_assoc, ← List.getElem?_drop, drop_fourteen_header_append hd hs]
  have hfcs : ∀ k, (ax25Frame (header lc) c)[16 + c.length + k]? = [_, _][k]? := fun k => by
    rw [ax25Frame_eq_append_fcs, ← List.getElem?_drop, List.drop_left' hlen]
  refine ⟨c, hc, ?_, ?_, ?_, hctl 0, hctl 1, ?_, ?_, ?_⟩
  · rw [ax25Frame_length, hhdr]
    omega
  · rw [ax25Frame, List.append_assoc, take_seven_header_append hd, ssidMoreByte, ssidByte, BitVec.or_zero]
  · rw [ax25Frame, List.append_assoc, take_seven_drop_seven_header_append hd hs]
    rfl
  · rw [ax25Frame, List.append_assoc, List.drop_left' hhdr, List.take_left]
  · rw [hbody]
    exact hfcs 0
  · rw [hbody, show 17 + c.length = 16 + c.length + 1 by omega]
    exact hfcs 1

end Sys2Proof.Machine

namespace Sys2Proof.Machine

/-! ## The instructions of the tone sequencer -/

section
variable {s : State}

/-- An instruction of the sequencer that computes samples is `State.runUnit` of what it computes, and always answers. -/
theorem exec_eq_runUnit_of_computesSamples {i : Instr} (hi : Claims.computesSamples i = true) (s : State) :
    ∃ out, exec i s = .next (s.runUnit out) := by
  cases i with
  | leader | brk | visStart | visBit | visParity | visStop | sync | porch | pixG | pixB | pixR | separator
    | toneSample | seqStep => exact ⟨_, rfl⟩
  | _ => cases hi

/-- TONE_SAMPLE on a checked grid and rate (41_sstv_tone_sequencer.md R161). -/
theorem exec_toneSample_of_checked (h : Claims.Checked s) : exec .toneSample s =
    .next (s.withSeq (toneStep Config.params s.seq) (s.samples ++ [sineSample Config.params s.seq.phase.toNat])) :=
  congrArg Host.Outcome.next (State.runUnit_of_checked _ ((unitChecked_iff_checked s).2 h))

/-- SEQ_STEP on a checked grid and rate writes what R164's walk leaves. -/
theorem exec_seqStep_of_checked (h : Claims.Checked s) : exec .seqStep s =
    .next (s.withSeq (seqWalk Config.params s.lcfg.sampleRate.toNat s.grid s.seq).1
      (seqWalk Config.params s.lcfg.sampleRate.toNat s.grid s.seq).2) :=
  congrArg Host.Outcome.next (State.runUnit_of_checked _ ((unitChecked_iff_checked s).2 h))

theorem rateLegal_of_checked (h : Claims.Checked s) : rateLegal s.lcfg.sampleRate.toNat = true := by
  obtain ⟨-, -, -, h1, h2⟩ := h
  simp [rateLegal, h1, h2]

end

/-- Settles O17: each of the seven instructions runs its segment, whose tone is the row of R92's table. -/
theorem fixedToneSegments : Obligations.FixedToneSegments :=
  ⟨runsTone_of_runSegment .leader fun _ => rfl, runsTone_of_runSegment .brk fun _ => rfl,
    runsTone_of_runSegment .visStart fun _ => rfl, runsTone_of_runSegment .visStop fun _ => rfl,
    runsTone_of_runSegment .sync fun _ => rfl, runsTone_of_runSegment .porch fun _ => rfl,
    runsTone_of_runSegment .separator fun _ => rfl⟩

/-- Settles O18: VIS_BIT and VIS_PARITY run their segments, and both have the tone of a VIS cell. -/
theorem visCellSegments : Obligations.VisCellSegments := fun bit =>
  ⟨runsTone_of_runSegment (.visBit bit) fun _ => rfl, runsTone_of_runSegment (.visParity bit) fun _ => rfl⟩

/-- Settles O20: one `toneStep` of the registers and one more sample. -/
theorem toneSampleOutputsThenAdvances : Obligations.ToneSampleOutputsThenAdvances :=
  fun _ h => exec_toneSample_of_checked h

/-- Settles O22: each of the instructions is `State.runUnit`, which changes nothing where R141's check fails. -/
theorem sequencerNeedsCheckedGridAndRate : Obligations.SequencerNeedsCheckedGridAndRate := by
  intro i s hi hbad
  obtain ⟨out, hout⟩ := exec_eq_runUnit_of_computesSamples hi s
  have hu : s.unitChecked = false := by
    rw [← Bool.not_eq_true, State.unitChecked_iff]
    omega
  rw [hout, State.runUnit_of_unchecked out hu]

/-! ## The schedule

Its two parts, the VIS header and the scan lines, and their lengths (R142, R149, R156). -/

section
variable (P : Params) (g : PixelGrid)

theorem visDataBits_eq_seven_or_eight : P.visDataBits = 7 ∨ P.visDataBits = 8 := by
  unfold Params.visDataBits
  split
  · exact .inl rfl
  · exact .inr rfl

theorem totalNs_eq_ite_visDataBits :
    totalNs P = if P.visDataBits = 8 then 115230176000 else 115200176000 := by
  unfold totalNs Params.visDataBits
  split <;> rfl

/-- The data bits of mode 44, least significant first (R146). -/
theorem visBits_eq : visBits P =
    [false, false, true, true, false, true, false] ++ if P.visDataBits = 8 then [false] else [] := by
  rcases visDataBits_eq_seven_or_eight P with h | h <;> rw [visBits, h] <;> rfl

/-- The code of mode 44 has an odd number of ones, all of them within 7 bits (R147). -/
theorem visParity_eq_true : visParity P = true := by
  rw [visParity, visBits_eq]
  split <;> rfl

theorem visHeader_length : (visHeader P).length = 6 + P.visDataBits := by
  simp only [visHeader, visBits, List.length_append, List.length_map, List.length_range, List.length_cons,
    List.length_nil]
  omega

theorem scanOf_length (y : Nat) (slot : Pixel → Segment) : (scanOf g y slot).length = 320 := by
  rw [scanOf, List.length_map, List.length_range, Config.W]

/-- SYNC, PORCH and three scans, each with its SEPARATOR (30_encoding.md R95). -/
theorem scanLine_length (y : Nat) : (scanLine g y).length = 965 := by
  simp [scanLine, scanOf_length]

theorem schedule_length : (schedule P g).length = 247046 + P.visDataBits := by
  rw [schedule, List.length_append, visHeader_length, List.length_flatMap]
  simp only [scanLine_length, List.map_const', List.length_range, List.sum_replicate, smul_eq_mul, Config.H]
  omega

/-- SEG_IDX's 18 bits count every segment (10_state.md R36). -/
theorem schedule_length_lt : (schedule P g).length < 2 ^ 18 := by
  have := visDataBits_eq_seven_or_eight P
  rw [schedule_length]
  omega

/-- Within a full grid PixelRead is row-major (20_memory.md R62). -/
theorem pixelRead_of_lt {g : PixelGrid} {x y : Nat} (h : y * 320 + x < g.px.length) :
    pixelRead g x y = g.px[y * 320 + x] :=
  List.getD_eq_getElem _ _ h

/-- On a full grid the scan of a line goes through the pixels of that line. -/
theorem scanOf_eq_map {g : PixelGrid} (hg : g.px.length = 320 * 256) {y : Nat} (hy : y < 256) (slot : Pixel → Segment) :
    scanOf g y slot = ((g.px.drop (y * 320)).take 320).map slot := by
  have hlen : ((g.px.drop (y * 320)).take 320).length = 320 := by
    rw [List.length_take, List.length_drop]
    omega
  refine List.ext_getElem (by rw [scanOf_length, List.length_map, hlen]) fun x hx _ => ?_
  rw [scanOf_length] at hx
  have hpx : y * 320 + x < g.px.length := by omega
  simp only [scanOf, List.getElem_map, List.getElem_range, List.getElem_take, List.getElem_drop, pixelRead_of_lt hpx]

end

/-- Settles O23: 13 or 14 segments of header and 965 a line, whose durations are those of R95. -/
theorem scheduleLengthAndDuration : Obligations.ScheduleLengthAndDuration := by
  intro P g
  refine ⟨?_, (totalDur_schedule P g).trans (totalNs_eq_ite_visDataBits P)⟩
  rw [schedule_length]
  rcases visDataBits_eq_seven_or_eight P with h | h <;> rw [h] <;> rfl

/-- Settles O24: the data bits and the parity of the VIS code 44, in R149's order. -/
theorem visHeaderSegments : Obligations.VisHeaderSegments := by
  intro P
  rw [visHeader, visParity_eq_true, visBits_eq]
  split <;> rfl

/-- Settles O25: each of the three scans goes through the 320 pixels of line y. -/
theorem scanLineSegments : Obligations.ScanLineSegments := by
  intro g y hg hy
  simp only [scanLine, scanOf_eq_map hg hy]

/-! ## The stream -/

section
variable (P : Params) (g : PixelGrid)

/-- The stream of R158 and R161, from phase 0. -/
theorem sstv_eq_incSamples (fs : Nat) : sstv P g fs = incSamples P 0 (sampleIncs P fs 0 (schedule P g)) := by
  simp only [sstv, incSamples, phaseAt, Nat.zero_add]

/-- The stream has one sample for each increment. -/
theorem sstv_length (fs : Nat) : (sstv P g fs).length = (sampleIncs P fs 0 (schedule P g)).length := by
  rw [sstv_eq_incSamples, incSamples, List.length_map, List.length_range]

/-- The boundaries of the schedule leave N samples between them (R159). -/
theorem sampleIncs_schedule_length (fs : Nat) : (sampleIncs P fs 0 (schedule P g)).length = sampleCount P fs := by
  rw [sampleIncs_length, Nat.zero_add, totalDur_schedule, sampleAt_zero, Nat.sub_zero, sampleCount]

/-- Past its last sample the phase has taken every increment. -/
theorem phaseAt_length (incs : List Nat) : phaseAt P incs incs.length = incs.sum % 2 ^ P.phaseBits := by
  rw [phaseAt, List.take_length]

/-- What R164's walk leaves in the registers: all the time, samples and segments of the schedule have passed, and the
phase has taken every increment. -/
theorem seqWalk_registers {fs : Nat} (hfs : rateLegal fs = true) (r : SeqRegs) :
    (seqWalk P fs g r).1.tNs.toNat = totalNs P ∧ (seqWalk P fs g r).1.sampleIdx.toNat = sampleCount P fs ∧
      (seqWalk P fs g r).1.phase.toNat = (sampleIncs P fs 0 (schedule P g)).sum % 2 ^ P.phaseBits ∧
      (seqWalk P fs g r).1.segIdx.toNat = (schedule P g).length := by
  have hT : totalNs P < 2 ^ 37 := by unfold totalNs; split <;> norm_num
  have hN : sampleAt fs (totalNs P) < 2 ^ 32 := (sampleCount_lt P hfs).trans_lt (by norm_num)
  have h0 : (seqInit r).tNs.toNat = 0 := rfl
  have hphase : (seqInit r).phase.toNat = 0 := rfl
  have hseg : (seqInit r).segIdx = 0#18 := rfl
  obtain ⟨-, ht, hn, hp, hi⟩ := segLoop_spec P fs (schedule P g) (seqInit r) [] (two_pow_phaseBits_pos P)
    (sampleAt_zero fs).symm (by rwa [h0, Nat.zero_add, totalDur_schedule])
    (by rwa [h0, Nat.zero_add, totalDur_schedule])
  rw [h0, Nat.zero_add, totalDur_schedule] at ht hn
  rw [h0, hphase, Nat.zero_add] at hp
  rw [hseg, BitVec.zero_add] at hi
  exact ⟨ht, hn, hp, (congrArg BitVec.toNat hi).trans (Nat.mod_eq_of_lt (schedule_length_lt P g))⟩

end

/-- Settles O21: the walk from its initialisation emits the stream defined without registers, and leaves the registers
where that stream ends. -/
theorem sequencerWalkEmitsTheDefinedStream : Obligations.SequencerWalkEmitsTheDefinedStream := by
  intro s h
  have hfs := rateLegal_of_checked h
  obtain ⟨ht, hn, hp, hi⟩ := seqWalk_registers Config.params s.grid hfs s.seq
  have hx := (seqWalk_samples Config.params hfs s.grid s.seq).trans (sstv_eq_incSamples _ _ _).symm
  refine ⟨_, exec_seqStep_of_checked h, hx, hn, hi, ht, ?_, rfl⟩
  rw [State.withSeq_seq, State.withSeq_samples, hp, hx, sstv_length, phaseAt_length]

/-- Settles O26: each boundary of the segment is the first sample at or after its instant. -/
theorem segmentHoldsSamplesOfItsInterval : Obligations.SegmentHoldsSamplesOfItsInterval := by
  intro fs t d n
  rw [← not_le (a := sampleAt fs (t + d)), sampleAt_le_iff, sampleAt_le_iff, not_le]

/-- Settles O27: the stream has a sample for each increment, and T_TOTAL is one of two durations. -/
theorem streamLengthIsFixed : Obligations.StreamLengthIsFixed := by
  refine ⟨fun P g fs => (sstv_length P g fs).trans (sampleIncs_schedule_length P g fs), fun P h => ?_, fun P h => ?_⟩
  · have hT : totalNs P = 115230176000 := by rw [totalNs_eq_ite_visDataBits, h]; rfl
    simp [sampleCount, hT, sampleAt, ceilDiv]
  · have hT : totalNs P = 115200176000 := by rw [totalNs_eq_ite_visDataBits, h]; rfl
    simp [sampleCount, hT, sampleAt, ceilDiv]

/-! ## The phase increment -/

/-- R160's formula, at every rate it is stated for. -/
theorem phaseInc_of_pos (P : Params) {fs : Nat} (hfs : 0 < fs) (t : Tone) : phaseInc P fs t =
    (2 * t.num * 2 ^ P.phaseBits + t.den * fs) / (2 * t.den * fs) % 2 ^ P.phaseBits := by
  rw [phaseInc, if_neg hfs.ne']

/-- `floor((2a + c) / 2c)` is `a / c` rounded to the nearest integer, halves up. -/
theorem div_two_mul_bounds {c : Nat} (hc : 0 < c) (a : Nat) :
    2 * a < 2 * ((2 * a + c) / (2 * c) * c) + c ∧ 2 * ((2 * a + c) / (2 * c) * c) ≤ 2 * a + c := by
  have hdiv := Nat.div_add_mod' (2 * a + c) (2 * c)
  have hmod := Nat.mod_lt (2 * a + c) (Nat.mul_pos two_pos hc)
  rw [Nat.mul_left_comm] at hdiv
  omega

/-- The increment depends on the frequency only, not on the terms of the fraction that gives it. -/
theorem phaseInc_mul (P : Params) {fs k : Nat} (hfs : 0 < fs) (hk : 0 < k) (a b d d' : Nat) :
    phaseInc P fs { num := k * a, den := k * b, dur := d } = phaseInc P fs { num := a, den := b, dur := d' } := by
  rw [phaseInc_of_pos P hfs, phaseInc_of_pos P hfs]
  congr 1
  calc (2 * (k * a) * 2 ^ P.phaseBits + k * b * fs) / (2 * (k * b) * fs)
      = k * (2 * a * 2 ^ P.phaseBits + b * fs) / (k * (2 * b * fs)) := by ring_nf
    _ = (2 * a * 2 ^ P.phaseBits + b * fs) / (2 * b * fs) := Nat.mul_div_mul_left _ _ hk

/-- Settles O28: R160's quotient lies within half a unit of the ratio, and computes to the six values at 44100 Hz. -/
theorem incrementIsTheRoundedRatio : Obligations.IncrementIsTheRoundedRatio := by
  refine ⟨fun P fs t hfs hden => ?_, fun P h => by simp [phaseInc, h]⟩
  obtain ⟨hlo, hhi⟩ := div_two_mul_bounds (Nat.mul_pos hden hfs) (t.num * 2 ^ P.phaseBits)
  refine ⟨_, hlo, hhi, ?_⟩
  rw [phaseInc_of_pos P hfs, Nat.mul_assoc, Nat.mul_assoc]

/-! ## A black line -/

/-- `FPIX(0)` is 1500 Hz, written as 382500 / 255 (30_encoding.md R96). -/
theorem phaseInc_pixelTone_zero (P : Params) {fs : Nat} (hfs : 0 < fs) :
    phaseInc P fs (pixelTone 0) = phaseInc P fs { num := 1500, den := 1, dur := 0 } :=
  phaseInc_mul P hfs (k := 255) (by norm_num) 1500 1 457600 0

/-- Within the all-zero grid every pixel is black. -/
theorem pixelRead_of_black {g : PixelGrid} (hg : g.px = List.replicate (320 * 256) ⟨0, 0, 0⟩) {x y : Nat} (hx : x < 320)
    (hy : y < 256) : pixelRead g x y = ⟨0, 0, 0⟩ := by
  have h : y * 320 + x < g.px.length := by
    rw [hg, List.length_replicate]
    omega
  rw [pixelRead_of_lt h]
  simp only [hg, List.getElem_replicate]

/-- Every slot of a scan of the all-zero grid is the slot of a black pixel. -/
theorem eq_of_mem_scanOf_black {g : PixelGrid} (hg : g.px = List.replicate (320 * 256) ⟨0, 0, 0⟩) {y : Nat}
    (hy : y < 256) {slot : Pixel → Segment} {sg : Segment} (h : sg ∈ scanOf g y slot) : sg = slot ⟨0, 0, 0⟩ := by
  obtain ⟨x, hx, rfl⟩ := List.mem_map.1 h
  rw [pixelRead_of_black hg (List.mem_range.1 hx) hy]

/-- What may follow SYNC in a line (R156). -/
theorem mem_tail_scanLine {g : PixelGrid} {y : Nat} {sg : Segment} (h : sg ∈ (scanLine g y).tail) :
    sg = .porch ∨ sg = .separator ∨ sg ∈ scanOf g y (fun p => .pixG p.g) ∨ sg ∈ scanOf g y (fun p => .pixB p.b) ∨
      sg ∈ scanOf g y (fun p => .pixR p.r) := by
  simp only [scanLine, List.cons_append, List.nil_append, List.tail_cons, List.mem_cons, List.mem_append,
    List.not_mem_nil, or_false] at h
  tauto

/-- Settles O31: after SYNC come PORCH, SEPARATOR and black pixels, all of 1500 Hz. -/
theorem blackGridIsConstantTone : Obligations.BlackGridIsConstantTone := by
  intro P fs g y hfs hy hg sg hsg
  rcases mem_tail_scanLine hsg with rfl | rfl | h | h | h
  · rfl
  · rfl
  all_goals
    rw [eq_of_mem_scanOf_black hg hy h]
    exact phaseInc_pixelTone_zero P hfs

/-! ## SINE -/

section
variable (P : Params) (phase : Nat)

theorem amplitude_le : P.amplitude ≤ 32767 := by
  have := P.ampPred.isLt
  unfold Params.amplitude
  omega

theorem neg_amplitude_le_sine : -(P.amplitude : Int) ≤ P.sine phase := le_max_left _ _

theorem sine_le_amplitude : P.sine phase ≤ P.amplitude := max_le (by omega) (min_le_left _ _)

end

/-- Settles O29: SINE is clamped to the amplitude, and the amplitude fits 16 bits. -/
theorem samplesHoldTheSineInRange : Obligations.SamplesHoldTheSineInRange := by
  intro P phase
  have hlo := neg_amplitude_le_sine P phase
  have hhi := sine_le_amplitude P phase
  have hamp := amplitude_le P
  refine ⟨hlo, hhi, ?_⟩
  rw [sineSample, BitVec.toInt_ofInt, Int.bmod_eq_of_le] <;> omega

/-- An integer is its own rounding. -/
theorem roundsHalfAway_intCast {m n : Int} (h : RoundsHalfAway (m : ℝ) n) : n = m := by
  obtain ⟨habs, hpos, hneg⟩ := h
  have hfloor : ⌊|(m : ℝ)| + 1 / 2⌋ = |m| := by
    rw [← Int.cast_abs, Int.floor_intCast_add]
    norm_num
  rw [hfloor] at habs
  rcases le_total 0 m with hm | hm
  · have := hpos (by exact_mod_cast hm)
    rw [abs_of_nonneg hm] at habs
    omega
  · have := hneg (by exact_mod_cast hm)
    rw [abs_of_nonpos hm] at habs
    omega

/-- The reference sine at a phase where it is an integer. -/
theorem sine_eq_of_isSineRef {P : Params} (hb : P.phaseBits = 32) (ha : P.amplitude = 32767) (h : P.IsSineRef) {p : Nat}
    (hp : p < 2 ^ 32) {m : Int} (hm : 32767 * Real.sin (2 * Real.pi * (p : ℝ) / 2 ^ 32) = m) : P.sine p = m := by
  have hr := h p (by rwa [hb])
  rw [ha, hb, Nat.cast_ofNat, hm] at hr
  exact roundsHalfAway_intCast hr

/-- Settles O30: at a quarter of the period and its multiples the sine is 0, 1, 0 and −1, and rounding keeps integers. -/
theorem referenceSineCorners : Obligations.ReferenceSineCorners := by
  intro P hb ha h
  refine ⟨sine_eq_of_isSineRef hb ha h (by norm_num) ?_, sine_eq_of_isSineRef hb ha h (by norm_num) ?_,
    sine_eq_of_isSineRef hb ha h (by norm_num) ?_, sine_eq_of_isSineRef hb ha h (by norm_num) ?_⟩
  · simp
  · rw [show 2 * Real.pi * ((2 ^ 30 : Nat) : ℝ) / 2 ^ 32 = Real.pi / 2 by push_cast; ring, Real.sin_pi_div_two]
    norm_num
  · rw [show 2 * Real.pi * ((2 ^ 31 : Nat) : ℝ) / 2 ^ 32 = Real.pi by push_cast; ring, Real.sin_pi]
    norm_num
  · rw [show 2 * Real.pi * ((3 * 2 ^ 30 : Nat) : ℝ) / 2 ^ 32 = Real.pi / 2 + Real.pi by push_cast; ring,
      Real.sin_add_pi, Real.sin_pi_div_two]
    norm_num

end Sys2Proof.Machine

namespace Sys2Proof.Machine

/-! ## The byte operations of the framer

Each byte of 42_ax25_framer.md R202 to R214 as a number. -/

theorem charByte_eq_ofNat (d : Byte) : charByte d = BitVec.ofNat 8 (2 * d.toNat) := by
  refine BitVec.eq_of_toNat_eq ?_
  rw [charByte, BitVec.toNat_shiftLeft, Nat.shiftLeft_eq, BitVec.toNat_ofNat, pow_one, Nat.mul_comm]

/-- A 4-bit SSID with its extension bit gives the byte of the SSID format (30_encoding.md R100). -/
theorem ssidByte_setWidth_eq_ssidWord :
    ∀ (ssid : BitVec 4) (x : Bool), ssidByte (ssid.setWidth 8) (if x then 1#8 else 0#8) = ssidWord ssid x := by
  decide

theorem ssidMoreByte_eq_ofNat (ssid : BitVec 4) :
    ssidMoreByte (ssid.setWidth 8) = BitVec.ofNat 8 (0x60 + 2 * ssid.toNat) := by
  refine (ssidByte_setWidth_eq_ssidWord ssid false).trans (BitVec.eq_of_toNat_eq ?_)
  rw [ssidWord_toNat, BitVec.toNat_ofNat, Bool.toNat_false]
  omega

theorem ssidLastByte_eq_ofNat (ssid : BitVec 4) :
    ssidLastByte (ssid.setWidth 8) = BitVec.ofNat 8 (0x61 + 2 * ssid.toNat) := by
  refine (ssidByte_setWidth_eq_ssidWord ssid true).trans (BitVec.eq_of_toNat_eq ?_)
  rw [ssidWord_toNat, BitVec.toNat_ofNat, Bool.toNat_true]
  omega

theorem fcsLoByte_eq_ofNat (c : BitVec 16) : fcsLoByte c = BitVec.ofNat 8 ((65535 - c.toNat) % 256) := by
  rw [fcsLoByte, lowByte_eq_ofNat, fcsOf_toNat]

theorem fcsHiByte_eq_ofNat (c : BitVec 16) : fcsHiByte c = BitVec.ofNat 8 ((65535 - c.toNat) / 256) := by
  rw [fcsHiByte, highByte_eq_ofNat, fcsOf_toNat]

/-- An instruction that appends the byte of value `v` to the frame space and does nothing else. -/
theorem emitsFrameByte_of_emitFrame {i : Instr} {s : State} {b : Byte} {v : Nat}
    (h : exec i s = .next (s.emitFrame [b])) (hb : b = BitVec.ofNat 8 v) : Claims.EmitsFrameByte i s v := by
  subst hb
  exact h

/-- Settles O33: each address instruction appends one byte, whose value is the shifted character or SSID. -/
theorem addressBytes : Obligations.AddressBytes := by
  refine ⟨fun ch s => emitsFrameByte_of_emitFrame rfl ?_, fun ssid s =>
    ⟨emitsFrameByte_of_emitFrame rfl (ssidMoreByte_eq_ofNat ssid),
      emitsFrameByte_of_emitFrame rfl (ssidLastByte_eq_ofNat ssid)⟩⟩
  rw [charByte_eq_ofNat, BitVec.toNat_setWidth_of_le (by decide)]

/-- Settles O34: the two instructions append the control byte and the PID byte. -/
theorem controlAndPidBytes : Obligations.ControlAndPidBytes := fun _ =>
  ⟨emitsFrameByte_of_emitFrame (b := ctrlByte) rfl rfl, emitsFrameByte_of_emitFrame (b := pidByte) rfl rfl⟩

/-- Settles O35: INFO_BYTE appends its operand, FCS_LO and FCS_HI the bytes of the complement of CRC. -/
theorem informationAndFcsBytes : Obligations.InformationAndFcsBytes := fun s =>
  ⟨fun _ => rfl, emitsFrameByte_of_emitFrame rfl (fcsLoByte_eq_ofNat s.crc),
    emitsFrameByte_of_emitFrame rfl (fcsHiByte_eq_ofNat s.crc)⟩

/-! ## Address fields -/

/-- Character `i` of a padded callsign is the callsign's own, or a space where it has ended (42_ax25_framer.md R201). -/
theorem padCall_eq_map_getD {c : Bytes} (h : c.length ≤ 6) :
    padCall c = (List.range 6).map fun i => c.getD i 0x20#8 := by
  refine List.ext_getElem (by rw [padCall_length h, List.length_map, List.length_range]) fun i _ _ => ?_
  simp only [padCall, List.getElem_map, List.getElem_range, List.getD_eq_getElem?_getD]
  by_cases hi : i < c.length
  · rw [List.getElem_append_left hi, List.getElem?_eq_getElem hi, Option.getD_some]
  · rw [List.getElem_append_right (not_lt.1 hi), List.getElem_replicate, List.getElem?_eq_none (not_lt.1 hi),
      Option.getD_none]

/-- Settles O37: every character of the padded callsign is shifted left by 1. -/
theorem addressFieldIsPaddedAndShifted : Obligations.AddressFieldIsPaddedAndShifted := by
  intro c h _
  rw [callField, padCall_eq_map_getD h, List.map_map]
  exact List.map_congr_left fun i _ => charByte_eq_ofNat _

/-! ## The cut into chunks

Chunk `i` holds the bytes from `i × M` up to `(i + 1) × M` or the end of the stream (R209). -/

section
variable {m : Nat} {sb : Bytes}

theorem lt_chunks_length_iff (hm : 0 < m) {i : Nat} : i < (chunks m sb).length ↔ i * m < sb.length := by
  rw [chunks_length, lt_ceilDiv_iff hm]

theorem length_le_chunks_length_mul (hm : 0 < m) : sb.length ≤ (chunks m sb).length * m := by
  rw [chunks_length, ← ceilDiv_le_iff hm]

theorem getElem_chunks {i : Nat} (hi : i < (chunks m sb).length) : (chunks m sb)[i] = (sb.drop (i * m)).take m := by
  simp only [chunks, List.getElem_map, List.getElem_range]

theorem length_getElem_chunks {i : Nat} (hi : i < (chunks m sb).length) :
    (chunks m sb)[i].length = min m (sb.length - i * m) := by
  rw [getElem_chunks, List.length_take, List.length_drop]

@[simp] theorem chunks_nil : chunks m [] = [] := by simp [chunks, ceilDiv]

theorem chunks_length_eq_zero_iff (hm : 0 < m) : (chunks m sb).length = 0 ↔ sb = [] := by
  rw [← Nat.le_zero, chunks_length, ceilDiv_le_iff hm, Nat.zero_mul, Nat.le_zero, List.length_eq_zero_iff]

/-- All the chunks but the last do not reach the end of a stream that is not empty. -/
theorem pred_chunks_length_mul_lt (hm : 0 < m) (hsb : sb ≠ []) : ((chunks m sb).length - 1) * m < sb.length :=
  (lt_chunks_length_iff hm).1 (Nat.sub_one_lt (mt (chunks_length_eq_zero_iff hm).1 hsb))

/-- A stream that fits one chunk is that chunk. -/
theorem chunks_of_length_le (hsb : sb ≠ []) (hle : sb.length ≤ m) : chunks m sb = [sb] := by
  have hpos := List.length_pos_iff.2 hsb
  have hcount : ceilDiv sb.length m = 1 := le_antisymm
    ((ceilDiv_le_iff (hpos.trans_le hle) _ _).2 (by rwa [Nat.one_mul]))
    ((lt_ceilDiv_iff (hpos.trans_le hle) _ _).2 (by rwa [Nat.zero_mul]))
  rw [chunks, hcount]
  simp [List.take_of_length_le hle]

/-- A full chunk and at most `m` bytes more are two chunks. -/
theorem chunks_append_of_length_eq {c : Bytes} (hsb : sb.length = m) (hc : c ≠ []) (hle : c.length ≤ m) :
    chunks m (sb ++ c) = [sb, c] := by
  have hpos := List.length_pos_iff.2 hc
  have hm := hpos.trans_le hle
  have hcount : ceilDiv (sb ++ c).length m = 2 := le_antisymm
    ((ceilDiv_le_iff hm _ _).2 (by rw [List.length_append]; omega))
    ((lt_ceilDiv_iff hm _ _).2 (by rw [List.length_append]; omega))
  rw [chunks, hcount, List.range_succ, List.range_one]
  simp [List.take_left' hsb, List.drop_left' hsb, List.take_of_length_le hle]

end

/-- Settles O39: the number of chunks is the least K whose K × M reaches the end of the stream, and each chunk is its slice. -/
theorem chunksCutTheStream : Obligations.ChunksCutTheStream := by
  intro m sb hm
  refine ⟨⟨length_le_chunks_length_mul hm, ?_, chunks_length_eq_zero_iff hm⟩, fun i hi => ?_,
    fun c hc => ?_, fun i hi => ?_⟩
  · by_cases hsb : sb = []
    · simp [hsb]
    · exact (pred_chunks_length_mul_lt hm hsb).le
  · have hnext := (lt_chunks_length_iff hm).1 hi
    rw [Nat.succ_mul] at hnext
    rw [List.getD_eq_getElem _ _ (Nat.lt_of_succ_lt hi), length_getElem_chunks]
    omega
  · obtain ⟨i, hi, rfl⟩ := List.mem_iff_getElem.1 hc
    have hstart := (lt_chunks_length_iff hm).1 hi
    rw [length_getElem_chunks]
    omega
  · rw [List.getElem?_eq_getElem hi, getElem_chunks, List.drop_take, Nat.succ_mul, Nat.add_sub_cancel_left]

/-- At a rate of at least 1 there is a sample (41_sstv_tone_sequencer.md R159). -/
theorem sampleCount_pos (P : Params) {fs : Nat} (hfs : 1 ≤ fs) : 0 < sampleCount P fs := by
  have hT : 0 < totalNs P := by unfold totalNs; split <;> norm_num
  rw [sampleCount, sampleAt, lt_ceilDiv_iff (by norm_num), Nat.zero_mul]
  exact Nat.mul_pos hT hfs

/-- Settles O41: a stream of one chunk, of a full chunk and a byte, and of none; and N is at least 1. -/
theorem chunkBoundaryCases : Obligations.ChunkBoundaryCases := by
  refine ⟨fun lc sb hlen hsb => ?_, fun lc sb d hlen hsb => ?_, fun lc => ?_, fun P g fs hfs => ?_⟩
  · rw [ax25, chunks_of_length_le hsb hlen.le]
    rfl
  · have hpos := List.length_pos_iff.2 hsb
    rw [ax25, chunks_append_of_length_eq hlen (List.cons_ne_nil d []) (hlen ▸ hpos)]
    rfl
  · rw [ax25, chunks_nil, List.map_nil]
  · rw [← List.length_pos_iff, sstv_length, sampleIncs_schedule_length]
    exact sampleCount_pos P hfs

/-! ## The frames of a stream -/

/-- Between a header of 16 bytes and the two bytes of the FCS stands the chunk (30_encoding.md R101). -/
theorem information_ax25Frame {hdr : Bytes} (h : hdr.length = 16) (c : Bytes) :
    ((ax25Frame hdr c).take ((ax25Frame hdr c).length - 2)).drop 16 = c := by
  have hbody : (ax25Frame hdr c).take ((ax25Frame hdr c).length - 2) = hdr ++ c := by
    rw [ax25Frame_length, Nat.add_sub_cancel, ← List.length_append, ax25Frame, List.take_left]
  rw [hbody, List.drop_left' h]

/-- Settles O40: the information fields are the chunks, and the chunks join to the stream. -/
theorem framesLoseNothing : Obligations.FramesLoseNothing := by
  intro lc sb hm hd hs
  have hinfo : ((ax25 lc sb).map fun f => (f.take (f.length - 2)).drop 16) = chunks lc.maxPayload.toNat sb := by
    rw [ax25, List.map_map]
    exact List.map_id'' (fun c => information_ax25Frame (header_length hd hs) c) _
  rw [hinfo, chunks_flatten hm]

/-- The number of frames of a cycle is ceil(2N / M) (R215). -/
theorem cycleFrames_length (P : Params) (lc : ConfigValues) (g : PixelGrid) : (cycleFrames P lc g).length =
    ceilDiv (2 * sampleCount P lc.sampleRate.toNat) lc.maxPayload.toNat := by
  rw [cycleFrames, framesOf, List.length_map, ax25_length, serialStream_length, sstv_length, sampleIncs_schedule_length]

/-- Settles O43: K is the least number whose K × M reaches 2N, which R159 bounds. -/
theorem frameCount : Obligations.FrameCount := by
  intro P lc g hm hfs hfs'
  have hpos := sampleCount_pos P hfs
  have hN : sampleCount P lc.sampleRate.toNat ≤ 115230176 := sampleCount_lt P (by simp [rateLegal, hfs, hfs'])
  rw [cycleFrames_length]
  refine ⟨(ceilDiv_le_iff hm _ _).1 le_rfl, (lt_ceilDiv_iff hm _ _).1 (Nat.sub_one_lt ?_), ?_, ?_⟩
  · exact ((lt_ceilDiv_iff hm _ 0).2 (by omega)).ne'
  · rw [ceilDiv_le_iff hm]
    calc 2 * sampleCount P lc.sampleRate.toNat ≤ 230460352 * 1 := by omega
      _ ≤ 230460352 * lc.maxPayload.toNat := Nat.mul_le_mul_left _ hm
  · intro h8 hrate hpay
    obtain ⟨-, hcounts, -⟩ := streamLengthIsFixed
    have hcount := hcounts P h8
    simp only [List.map_cons, List.cons.injEq] at hcount
    obtain ⟨-, -, -, hcount, -⟩ := hcount
    rw [hrate, hpay, show (44100 : BitVec 32).toNat = 44100 from rfl, hcount]
    rfl

/-! ## The frame check sequence -/

theorem crcShifts_eq_iterate (k : Nat) (c : BitVec 16) : crcShifts k c = crcShift^[k] c := by
  induction k generalizing c with
  | zero => rfl
  | succ k ih => exact ih (crcShift c)

/-- Settles O36: the eight shifts of CRC_UPDATE are an iterate, and the nine digits compute. -/
theorem crcUpdateIsEightReflectedShifts : Obligations.CrcUpdateIsEightReflectedShifts := by
  refine ⟨fun d s => ?_, by decide +kernel⟩
  exact congrArg (fun c => Host.Outcome.next (s.setCrc c)) (crcShifts_eq_iterate 8 _)

/-- What a shift adds to the register when `bit` leaves it (42_ax25_framer.md R211). -/
def crcFeedback (bit : Bool) : BitVec 16 := if bit then 0x8408#16 else 0#16

theorem crcFeedback_xor : ∀ a b : Bool, crcFeedback (a ^^ b) = crcFeedback a ^^^ crcFeedback b := by decide

theorem crcShift_eq_xor_crcFeedback (c : BitVec 16) : crcShift c = (c >>> 1) ^^^ crcFeedback (c.getLsbD 0) := by
  rw [crcShift, crcFeedback]
  split
  · rfl
  · rw [BitVec.xor_zero]

/-- A shift is linear over exclusive or, as its two terms are. -/
theorem crcShift_xor (a b : BitVec 16) : crcShift (a ^^^ b) = crcShift a ^^^ crcShift b := by
  simp only [crcShift_eq_xor_crcFeedback, BitVec.getLsbD_xor, BitVec.ushiftRight_xor_distrib, crcFeedback_xor]
  ac_rfl

theorem crcShifts_xor (k : Nat) (a b : BitVec 16) : crcShifts k (a ^^^ b) = crcShifts k a ^^^ crcShifts k b := by
  induction k generalizing a b with
  | zero => rfl
  | succ k ih => rw [crcShifts, crcShift_xor, ih]; rfl

/-- While only zeros leave the register there is no feedback. -/
theorem crcShifts_of_dvd (k : Nat) {c : BitVec 16} (h : 2 ^ k ∣ c.toNat) : crcShifts k c = c >>> k := by
  induction k generalizing c with
  | zero => rfl
  | succ k ih =>
    have hbit : c.getLsbD 0 = false := by
      rw [← BitVec.testBit_toNat, Nat.testBit_zero, decide_eq_false_iff_not]
      have := (dvd_pow_self 2 k.succ_ne_zero).trans h
      omega
    have hshift : crcShift c = c >>> 1 := by rw [crcShift, hbit, if_neg Bool.false_ne_true]
    have hdvd : 2 ^ k ∣ (c >>> 1).toNat := by
      rw [BitVec.toNat_ushiftRight, Nat.shiftRight_one]
      exact Nat.dvd_div_of_mul_dvd (by rwa [← pow_succ'])
    rw [crcShifts, hshift, ih hdvd, ← BitVec.shiftRight_add, Nat.add_comm]

/-- A byte exclusive-ored into the low half of the register is exclusive-ored into the next byte. -/
theorem crcUpdate_xor_setWidth (c : BitVec 16) (a d : Byte) :
    crcUpdate (c ^^^ a.setWidth 16) d = crcUpdate c (a ^^^ d) := by
  rw [crcUpdate, crcUpdate, BitVec.xor_assoc, BitVec.setWidth_xor]

theorem word16_eq_xor (hi lo : Byte) : word16 hi lo = word16 hi 0#8 ^^^ lo.setWidth 16 := by
  have hlo : lo.setWidth 16 = 0#8 ++ lo := BitVec.setWidth_eq_append (by decide)
  rw [word16, word16, hlo, BitVec.xor_append, BitVec.xor_zero, BitVec.zero_xor]

/-- CRC_UPDATE shifts the high byte of the register out unchanged. -/
theorem crcUpdate_word16_zero (hi d : Byte) :
    crcUpdate (word16 hi 0#8) d = crcUpdate 0#16 d ^^^ hi.setWidth 16 := by
  have hdvd : 2 ^ 8 ∣ (word16 hi 0#8).toNat := ⟨hi.toNat, by rw [word16_toNat]; simp [Nat.mul_comm]⟩
  have hhi : word16 hi 0#8 >>> 8 = hi.setWidth 16 := BitVec.eq_of_toNat_eq (by
    rw [BitVec.toNat_ushiftRight, word16_toNat, BitVec.toNat_setWidth_of_le (by decide), Nat.shiftRight_eq_div_pow]
    simp)
  rw [crcUpdate, crcShifts_xor, crcShifts_of_dvd 8 hdvd, hhi, crcUpdate, BitVec.zero_xor, BitVec.xor_comm]

/-- The FCS complements both bytes of the register (R212). -/
theorem fcsOf_word16 (hi lo : Byte) : fcsOf (word16 hi lo) = word16 (~~~hi) (~~~lo) := by
  refine BitVec.eq_of_toNat_eq ?_
  have := hi.isLt
  have := lo.isLt
  rw [fcsOf_toNat, word16_toNat, word16_toNat, BitVec.toNat_not, BitVec.toNat_not]
  omega

theorem fcsLoByte_word16 (hi lo : Byte) : fcsLoByte (word16 hi lo) = ~~~lo := by
  rw [fcsLoByte, fcsOf_word16, lowByte_word16]

theorem fcsHiByte_word16 (hi lo : Byte) : fcsHiByte (word16 hi lo) = ~~~hi := by
  rw [fcsHiByte, fcsOf_word16, highByte_word16]

theorem byte_xor_not (d : Byte) : d ^^^ ~~~d = 0xFF#8 := by
  rw [← BitVec.xor_allOnes, ← BitVec.xor_assoc, BitVec.xor_self, BitVec.zero_xor]
  rfl

/-- The two bytes of its own FCS take the register to one value, whatever it held (42_ax25_framer.md R219). -/
theorem crcUpdate_fcsBytes (c : BitVec 16) : crcUpdate (crcUpdate c (fcsLoByte c)) (fcsHiByte c) = 0xF0B8#16 := by
  obtain ⟨hi, lo, rfl⟩ : ∃ hi lo, c = word16 hi lo := ⟨_, _, (word16_highByte_lowByte c).symm⟩
  calc crcUpdate (crcUpdate (word16 hi lo) (fcsLoByte (word16 hi lo))) (fcsHiByte (word16 hi lo))
      = crcUpdate (crcUpdate (word16 hi 0#8) (lo ^^^ ~~~lo)) (~~~hi) := by
        rw [fcsLoByte_word16, fcsHiByte_word16, word16_eq_xor, crcUpdate_xor_setWidth]
    _ = crcUpdate (crcUpdate 0#16 (lo ^^^ ~~~lo)) (hi ^^^ ~~~hi) := by
        rw [crcUpdate_word16_zero, crcUpdate_xor_setWidth]
    _ = crcUpdate (crcUpdate 0#16 0xFF#8) 0xFF#8 := by rw [byte_xor_not, byte_xor_not]
    _ = 0xF0B8#16 := by decide +kernel

/-- Settles O42: a frame ends in the two bytes of the FCS of what stands before them. -/
theorem frameResidue : Obligations.FrameResidue := by
  intro lc sb f hf
  obtain ⟨c, -, rfl⟩ := List.mem_map.1 hf
  rw [ax25Frame, crcOver, List.foldl_append]
  exact crcUpdate_fcsBytes (crcOver (header lc ++ c))

end Sys2Proof.Machine

namespace Sys2Proof.Machine

/-! ## The KISS tokens

`kissLiteral` is R253's condition on a byte; ESC of R257 escapes the others. -/

theorem kissLiteral_eq_true_iff {d : Byte} : kissLiteral d = true ↔ d ≠ 0xC0#8 ∧ d ≠ 0xDB#8 := by simp [kissLiteral]

theorem kissLiteral_eq_false_iff {d : Byte} : kissLiteral d = false ↔ d = 0xC0#8 ∨ d = 0xDB#8 := by
  rw [← Bool.not_eq_true, kissLiteral_eq_true_iff]
  tauto

/-- Settles O44: a token appends its bytes, and KISS_LIT does so for a byte that needs no escape. -/
theorem kissTokens : Obligations.KissTokens := fun _ =>
  ⟨rfl, rfl, rfl, rfl, rfl, fun _ hend hesc => execKissLit_eq_next_iff.2 ⟨kissLiteral_eq_true_iff.2 ⟨hend, hesc⟩, rfl⟩⟩

theorem execKissLit_eq_refused {d : Byte} (hd : kissLiteral d = false) (s : State) :
    execKissLit d s = .refused .literalNeedsEscape := by
  rw [execKissLit, if_neg (Bool.eq_false_iff.1 hd)]

theorem execCfgSet_eq_refused {k : Byte} {v : CfgValue} (hk : k.toNat < 6) (hv : cfgShapeOk k v = false) (s : State) :
    execCfgSet k v s = .refused .operandType := by
  rw [execCfgSet, if_neg (not_le.2 hk), if_neg (Bool.eq_false_iff.1 hv)]

/-- Settles O45: both instructions check their operand before anything else. -/
theorem valuesThatAreNoOperandsAreRefused : Obligations.ValuesThatAreNoOperandsAreRefused := fun s =>
  ⟨fun _ hd => execKissLit_eq_refused (kissLiteral_eq_false_iff.2 hd) s, fun _ _ hk hv => execCfgSet_eq_refused hk hv s⟩

/-! ## KISS frames -/

/-- The bytes between the two FENDs hold none (43_kiss_encoder.md R258). -/
theorem fend_not_mem_kissBody (raw : Bytes) : fend ∉ kissCommand :: raw.flatMap kissEsc := by
  rw [List.mem_cons, List.mem_flatMap]
  rintro (h | ⟨d, -, h⟩)
  · exact absurd h (by decide)
  · exact fend_not_mem_kissEsc d h

/-- Settles O46: the bytes between the opening and the closing FEND are the command byte and outputs of ESC. -/
theorem kissFramesAreDelimited : Obligations.KissFramesAreDelimited := by
  intro raw
  have hbody := fend_not_mem_kissBody raw
  have hframe : kissFrame raw = fend :: ((kissCommand :: raw.flatMap kissEsc) ++ [fend]) := rfl
  rw [← show fend = 0xC0#8 from rfl, hframe]
  refine ⟨?_, rfl, ?_, ?_⟩
  · rw [List.count_cons_self, List.count_append, List.count_eq_zero_of_not_mem hbody, List.count_singleton_self]
  · rw [← List.cons_append, List.getLast?_concat]
  · rwa [List.tail_cons, List.dropLast_concat]

/-- ESC adds one byte to each byte it escapes (R259). -/
theorem flatMap_kissEsc_length (raw : Bytes) :
    (raw.flatMap kissEsc).length = raw.length + raw.countP (!kissLiteral ·) := by
  induction raw with
  | nil => rfl
  | cons d raw ih =>
    rw [List.flatMap_cons, List.length_append, ih, kissEsc_length, List.length_cons, List.countP_cons]
    by_cases hd : d = fend ∨ d = fesc
    · rw [if_pos hd, kissLiteral_eq_false_iff.2 hd, Bool.not_false, if_pos rfl]
      omega
    · rw [if_neg hd, kissLiteral_eq_true_iff.2 (not_or.1 hd), Bool.not_true, if_neg Bool.false_ne_true]
      omega

theorem kissFrame_length_eq_countP (raw : Bytes) :
    (kissFrame raw).length = 3 + raw.length + raw.countP (!kissLiteral ·) := by
  rw [kissFrame_length, flatMap_kissEsc_length, Nat.add_assoc]

/-- UNKISS's loop takes back every output of ESC (R260, R261). -/
theorem unescape_flatMap_kissEsc (raw : Bytes) : unescape (raw.flatMap kissEsc) = some raw := by
  induction raw with
  | nil => rfl
  | cons d raw ih => rw [List.flatMap_cons, unescape_kissEsc_append, ih, Option.map_some]

theorem unkiss_kissFrame (raw : Bytes) : unkiss (kissFrame raw) = some raw := by
  have hlen : 3 ≤ (kissFrame raw).length := by rw [kissFrame_length]; omega
  rw [unkiss, if_pos ⟨hlen, rfl, rfl, List.getLast?_concat⟩]
  exact (congrArg unescape List.dropLast_concat).trans (unescape_flatMap_kissEsc raw)

/-- Settles O48: the decoder takes back each escaped byte, and a frame is longer than the string it carries. -/
theorem kissRoundTrip : Obligations.KissRoundTrip := by
  refine fun raw => ⟨unkiss_kissFrame raw, fun h => ?_⟩
  have hlen := congrArg List.length h
  rw [kissFrame_length_eq_countP (kissFrame raw)] at hlen
  omega

/-! ## The length of a cycle's frames

No byte of a header is escaped: its address bytes lie below FEND, the PID byte above FESC. So at most the chunk and the two
FCS bytes grow. -/

theorem kissLiteral_of_toNat_lt {d : Byte} (h : d.toNat < 0xC0) : kissLiteral d = true := by
  refine kissLiteral_eq_true_iff.2 ⟨?_, ?_⟩ <;> rintro rfl <;> simp at h

/-- Everything a callsign and SSID that pass CALLCHECK satisfy (60_exceptions.md R335). -/
theorem callCheck_eq_none_iff {c : Bytes} {ssid : BitVec 8} : callCheck c ssid = none ↔
    c.length ≤ 6 ∧ stripSpaces c ≠ [] ∧ (stripSpaces c).all isCallChar = true ∧ ssid.toNat ≤ 15 := by
  unfold callCheck
  repeat' split
  all_goals simp_all

/-- A byte of a callsign stands before the trailing spaces or is a space. -/
theorem mem_stripSpaces_or_eq_space {c : Bytes} {d : Byte} (h : d ∈ c) : d ∈ stripSpaces c ∨ d = 0x20#8 := by
  rw [← List.mem_reverse, ← List.takeWhile_append_dropWhile (p := (· == 0x20#8)) (l := c.reverse), List.mem_append] at h
  rcases h with hspace | hpart
  · exact .inr (eq_of_beq (List.mem_takeWhile_imp (p := (· == 0x20#8)) hspace))
  · exact .inl (List.mem_reverse.2 hpart)

theorem isCallChar_toNat_le {d : Byte} (h : isCallChar d = true) : d.toNat ≤ 0x5A := by
  simp only [isCallChar, Bool.or_eq_true, Bool.and_eq_true, decide_eq_true_eq] at h
  omega

section
variable {c : Bytes} {ssid : BitVec 8} (h : callCheck c ssid = none)
include h

/-- 'Z' is the highest character of a padded callsign. -/
theorem toNat_le_of_mem_padCall {d : Byte} (hd : d ∈ padCall c) : d.toNat ≤ 0x5A := by
  obtain ⟨-, -, hchars, -⟩ := callCheck_eq_none_iff.1 h
  have hspace : d = 0x20#8 → d.toNat ≤ 0x5A := by rintro rfl; decide
  rcases List.mem_append.1 hd with hc | hpad
  · exact (mem_stripSpaces_or_eq_space hc).elim (fun hp => isCallChar_toNat_le (List.all_eq_true.1 hchars d hp)) hspace
  · exact hspace (List.eq_of_mem_replicate hpad)

theorem kissLiteral_of_mem_callField {d : Byte} (hd : d ∈ callField c) : kissLiteral d = true := by
  obtain ⟨ch, hch, rfl⟩ := List.mem_map.1 hd
  have hle := toNat_le_of_mem_padCall h hch
  refine kissLiteral_of_toNat_lt ?_
  rw [charByte_eq_ofNat, BitVec.toNat_ofNat]
  omega

theorem exists_ssid_eq_setWidth : ∃ n : BitVec 4, ssid = n.setWidth 8 := by
  obtain ⟨-, -, -, hssid⟩ := callCheck_eq_none_iff.1 h
  refine ⟨ssid.setWidth 4, BitVec.eq_of_toNat_eq ?_⟩
  rw [BitVec.toNat_setWidth, BitVec.toNat_setWidth]
  omega

/-- Either SSID byte, with the extension bit 0 or 1. -/
theorem kissLiteral_ssidByte (x : Bool) : kissLiteral (ssidByte ssid (if x then 1#8 else 0#8)) = true := by
  obtain ⟨n, rfl⟩ := exists_ssid_eq_setWidth h
  have hx := x.toNat_lt
  refine kissLiteral_of_toNat_lt ?_
  rw [ssidByte_setWidth_eq_ssidWord, ssidWord_toNat]
  omega

end

section
variable {lc : ConfigValues} (hd : callCheck lc.dstCall lc.dstSsid = none) (hs : callCheck lc.srcCall lc.srcSsid = none)
include hd hs

theorem kissLiteral_of_mem_header {d : Byte} (h : d ∈ header lc) : kissLiteral d = true := by
  simp only [header_eq_fields, List.mem_append, List.mem_cons, List.not_mem_nil, or_false] at h
  rcases h with (hfield | rfl) | (hfield | rfl) | rfl | rfl
  · exact kissLiteral_of_mem_callField hd hfield
  · exact kissLiteral_ssidByte hd false
  · exact kissLiteral_of_mem_callField hs hfield
  · exact kissLiteral_ssidByte hs true
  · decide
  · decide

/-- Of the escapes of a frame none is in the header. -/
theorem countP_ax25Frame_le (c : Bytes) : (ax25Frame (header lc) c).countP (!kissLiteral ·) ≤ c.length + 2 := by
  have hheader : (header lc).countP (!kissLiteral ·) = 0 :=
    List.countP_eq_zero.2 fun d h => by simp [kissLiteral_of_mem_header hd hs h]
  rw [ax25Frame, List.append_assoc, List.countP_append, hheader, Nat.zero_add]
  exact List.countP_le_length.trans (List.length_append).le

/-- The KISS frame of one chunk (R259). -/
theorem kissFrame_ax25Frame_length_bounds (c : Bytes) :
    21 + c.length ≤ (kissFrame (ax25Frame (header lc) c)).length ∧
      (kissFrame (ax25Frame (header lc) c)).length ≤ 23 + 2 * c.length := by
  have hcount := countP_ax25Frame_le hd hs c
  have hheader := header_length (length_of_callCheck hd) (length_of_callCheck hs)
  rw [kissFrame_length_eq_countP, ax25Frame_length, hheader]
  omega

end

/-- Settles O47: ESC adds a byte for each FEND and FESC, and a chunk holds from 1 to MAX_PAYLOAD bytes. -/
theorem kissFrameLength : Obligations.KissFrameLength := by
  refine ⟨fun raw => ?_, fun lc sb f hm hd hs hf => ?_⟩
  · have hpred : (fun d : Byte => d == 0xC0#8 || d == 0xDB#8) = (!kissLiteral ·) := by
      funext d
      simp [kissLiteral, bne]
    rw [hpred, kissFrame_length_eq_countP]
  · obtain ⟨raw, hraw, rfl⟩ := List.mem_map.1 hf
    obtain ⟨c, hc, rfl⟩ := List.mem_map.1 hraw
    obtain ⟨-, -, hchunk, -⟩ := chunksCutTheStream lc.maxPayload.toNat sb hm
    obtain ⟨hpos, hle⟩ := hchunk c hc
    have hbounds := kissFrame_ax25Frame_length_bounds hd hs c
    omega

end Sys2Proof.Machine

namespace Sys2Proof.Machine

/-! ## Transactions of the controller, one equation a case -/

section
variable {s : State}

/-- A step takes the oldest waiting item (44_cycle_control.md R280). -/
theorem step_of_decode {it : Item} {rest : List Item} {i : Instr} (hin : s.inbox = it :: rest) (hd : decode it = .ok i) :
    step s = exec i (s.withInbox rest) := by
  simp only [step, fetchNext, hin, hd]

theorem step_of_inbox_nil (hin : s.inbox = []) : step s = .next s := by
  simp only [step, fetchNext, hin]

/-- No register of the reset configuration is set (70_reset_and_hazards.md R381). -/
theorem setBit_unset (k : Nat) : Claims.setBit ConfigRegs.unset k = false := by
  unfold Claims.setBit
  split <;> rfl

theorem execCfgSet_of_six_le {k : Byte} (hk : 6 ≤ k.toNat) (v : CfgValue) : execCfgSet k v s = .next s.markPv := if_pos hk

theorem execCfgSet_of_writeCfg {k : Byte} {v : CfgValue} {c : ConfigRegs} (hk : k.toNat < 6) (hv : cfgShapeOk k v = true)
    (hc : writeCfg s.cfg k v = some c) : execCfgSet k v s = .next (s.withCfg c) := by
  rw [execCfgSet, if_neg (not_le.2 hk), if_pos hv, hc]

theorem execCfgRead_of_six_le {k : Byte} (hk : 6 ≤ k.toNat) : execCfgRead k s = .next (s.markPv.reply (.cfg k none)) :=
  if_pos hk

theorem execCfgRead_of_lt {k : Byte} (hk : k.toNat < 6) : execCfgRead k s = .next (s.reply (.cfg k (readCfg s.cfg k))) :=
  if_neg (not_le.2 hk)

/-- A START outside WAIT_WRITE that fails its checks (44_cycle_control.md R283). -/
theorem execStart_of_error {g : PixelGrid} {e : CycleError} (hw : s.ctl ≠ .waitWrite) (he : validate s.cfg g = some e) :
    execStart g s = .next ((s.latch g).clearStatus.raiseError e.code e.detail) := by
  simp only [execStart, startTxn, if_neg hw, startCycle, he]

/-- A START outside WAIT_WRITE that passes its checks (R283). -/
theorem execStart_of_valid {g : PixelGrid} (hw : s.ctl ≠ .waitWrite) (hv : validate s.cfg g = none) :
    execStart g s = beginWrites (computeFrames Config.params (s.latch g).clearStatus) := by
  simp only [execStart, startTxn, if_neg hw, startCycle, hv]

theorem execWriteOk_of_not_waitWrite (hw : s.ctl ≠ .waitWrite) : execWriteOk s = .next s.markPv := if_neg hw

/-- WRITE_OK of the last frame (R287). -/
theorem execWriteOk_of_last (hw : s.ctl = .waitWrite) (hl : s.frameIdx + 1 = s.framesTotal) :
    execWriteOk s = .next s.countWritten.complete := by
  rw [execWriteOk, if_pos hw, if_pos hl]

/-- WRITE_OK of a frame that another one follows in the queue (R287). -/
theorem execWriteOk_of_more {b : Bytes} (hw : s.ctl = .waitWrite) (hl : s.frameIdx + 1 ≠ s.framesTotal)
    (hb : s.fq[(s.frameIdx + 1).toNat]? = some b) : execWriteOk s = .next (s.countWritten.sinkWrite b) := by
  rw [execWriteOk, if_pos hw, if_neg hl]
  exact (issueWrite_eq_next_iff _ _).2 ⟨b, hb, rfl⟩

theorem execWriteErr_of_not_waitWrite (hw : s.ctl ≠ .waitWrite) : execWriteErr s = .next s.markPv := if_neg hw

theorem execWriteErr_of_waitWrite (hw : s.ctl = .waitWrite) :
    execWriteErr s = .next (s.raiseError .transportError (.frame s.frameIdx)) := if_pos hw

/-- The position of the frame after the outstanding one does not wrap around: FRAMES_TOTAL counts it (10_state.md R32, R34). -/
theorem toNat_frameIdx_add_one (h : s.frameIdx.toNat < s.framesTotal.toNat) :
    (s.frameIdx + 1).toNat = s.frameIdx.toNat + 1 := by
  bv_omega

end

/-- CFG_READ finds the value of a register whose set bit is 1, and UNSET otherwise (R282). -/
theorem readCfg_eq_of_lt (c : ConfigRegs) {k : Byte} (hk : k.toNat < 6) : readCfg c k =
    if Claims.setBit c k.toNat then
      some (if k = 0 then .str c.dstCall.value else if k = 1 then .u8 c.dstSsid.value
        else if k = 2 then .str c.srcCall.value else if k = 3 then .u8 c.srcSsid.value
        else if k = 4 then .u16 c.maxPayload.value else .u32 c.sampleRate.value)
    else none := by
  have hcases : k = 0 ∨ k = 1 ∨ k = 2 ∨ k = 3 ∨ k = 4 ∨ k = 5 := by bv_omega
  rcases hcases with rfl | rfl | rfl | rfl | rfl | rfl <;> rfl

/-- Settles O10: `step` takes the head of `inbox` and runs what it decodes to. -/
theorem stepRunsTheDecodedInstruction : Obligations.StepRunsTheDecodedInstruction :=
  fun _ _ _ _ hin hd => step_of_decode hin hd

/-- Settles O11: there is no item to take. -/
theorem blockWaitsForTheHost : Obligations.BlockWaitsForTheHost := fun _ hin => step_of_inbox_nil hin

/-- Settles O2: RESET leaves the reset state, with the fields that `resetKeeping` names kept. -/
theorem resetTransactionKeepsOnlyPv : Obligations.ResetTransactionKeepsOnlyPv := fun s =>
  ⟨s.resetKeeping, rfl, fun k _ => setBit_unset k, rfl, rfl, rfl, rfl, rfl, rfl, rfl, rfl, rfl, rfl, rfl⟩

/-- Settles O51: each value has its register's width, so the write of that register is what CFG_SET does. -/
theorem cfgSetWritesOneRegister : Obligations.CfgSetWritesOneRegister := by
  refine ⟨fun s k v hk => execCfgSet_of_six_le hk v, fun s b n8 n16 n32 hb => ⟨?_, ?_, ?_, ?_, ?_, ?_⟩⟩
  · exact execCfgSet_of_writeCfg (by decide) (decide_eq_true hb) rfl
  · exact execCfgSet_of_writeCfg (by decide) rfl rfl
  · exact execCfgSet_of_writeCfg (by decide) (decide_eq_true hb) rfl
  · exact execCfgSet_of_writeCfg (by decide) rfl rfl
  · exact execCfgSet_of_writeCfg (by decide) rfl rfl
  · exact execCfgSet_of_writeCfg (by decide) rfl rfl

/-- Settles O52: the reads append what `readCfg` and `statusOf` find. -/
theorem readsReturnTheRegisters : Obligations.ReadsReturnTheRegisters := by
  refine fun s => ⟨fun k hk => ?_, fun k hk => execCfgRead_of_six_le hk, rfl, rfl, rfl⟩
  rw [← readCfg_eq_of_lt s.cfg hk]
  exact execCfgRead_of_lt hk

/-- Settles O53: START latches, clears the status and enters the error that VALIDATE found. -/
theorem startReportsTheError : Obligations.StartReportsTheError :=
  fun _ _ _ hw he => execStart_of_error hw he

/-- Settles O56: WRITE_ERR enters TransportError, or marks a protocol violation where no write is outstanding. -/
theorem writeErrAborts : Obligations.WriteErrAborts :=
  ⟨fun _ hw => execWriteErr_of_not_waitWrite hw, fun _ hw => execWriteErr_of_waitWrite hw⟩

/-- Settles O57: SINK_WRITE is the one write to the sink. -/
theorem sinkWriteHandsOverTheBytes : Obligations.SinkWriteHandsOverTheBytes := fun _ _ => rfl

/-- Settles O55: under the invariant FRAME_IDX + 1 does not wrap, FRAMES_WRITTEN moves with it, and the queue is as long as
FRAMES_TOTAL says. -/
theorem writeOkAdvances : Obligations.WriteOkAdvances := by
  refine ⟨fun s hw => execWriteOk_of_not_waitWrite hw, fun s hs hw => ?_⟩
  obtain ⟨-, hn, hlt⟩ := (statusConsistent_of_waitWrite hw).1 hs.status
  have hidx : (s.frameIdx + 1).toNat = s.frameIdx.toNat + 1 := toNat_frameIdx_add_one (hn ▸ hlt)
  refine ⟨fun hl => ?_, fun hl => ?_⟩
  · have hlast : s.frameIdx + 1 = s.framesTotal := BitVec.eq_of_toNat_eq (hidx.trans hl)
    rw [show exec .writeOk s = execWriteOk s from rfl, execWriteOk_of_last hw hlast, State.countWritten, State.complete,
      hs.counters.2, hlast]
  · have hmore : s.frameIdx + 1 ≠ s.framesTotal := fun h => hl (hidx ▸ congrArg BitVec.toNat h)
    have hnext : s.frameIdx.toNat + 1 < s.fq.length := by omega
    have hb : s.fq[s.frameIdx.toNat + 1]? = some s.fq[s.frameIdx.toNat + 1] := List.getElem?_eq_getElem hnext
    exact ⟨_, hb, execWriteOk_of_more hw hmore (hidx.symm ▸ hb)⟩

/-! ## A START that passes its checks -/

section
variable {s : State} {g : PixelGrid}

theorem State.outstanding_of_waitWrite (hw : s.ctl = .waitWrite) : s.outstanding = s.fq[s.frameIdx.toNat]? := if_pos hw

/-- START's end, on a queue just filled, hands over the first frame. -/
theorem beginWrites_of_cons {first : Bytes} {more : List Bytes} (hi : s.frameIdx = 0)
    (hn : s.framesTotal.toNat = s.fq.length) (hfq : s.fq = first :: more) :
    beginWrites s = .next (s.awaitWrite.sinkWrite first) := by
  have hne : s.framesTotal ≠ 0 := fun h => by simp [h, hfq] at hn
  rw [beginWrites, if_neg hne]
  exact (issueWrite_eq_next_iff _ _).2 ⟨first, by simp [hi, hfq], rfl⟩

/-- What START queues is FRAMES of the latched configuration and the grid, with SSTV as R158 and R161 define it: the walk of
R164 emits that stream. -/
theorem computeFrames_fq_of_valid (hv : validate s.cfg g = none) :
    (computeFrames Config.params (s.latch g).clearStatus).fq
      = cycleFrames Config.params (latchCfg s.cfg s.lcfg) g := by
  obtain ⟨hset, -, hfs, -⟩ := (validate_eq_none_iff _ _).1 hv
  have hrate : rateLegal (latchCfg s.cfg s.lcfg).sampleRate.toNat = true := by rwa [latchCfg_of_set hset]
  rw [cycleFrames, sstv_eq_incSamples, ← seqWalk_samples _ hrate g s.seq]
  exact computeFrames_fq _ _

/-- A cycle that passes its checks has a frame to write. -/
theorem cycleFrames_ne_nil_of_valid (hv : validate s.cfg g = none) :
    cycleFrames Config.params (latchCfg s.cfg s.lcfg) g ≠ [] := by
  obtain ⟨hset, hm, hfs, -⟩ := (validate_eq_none_iff _ _).1 hv
  obtain ⟨hfs, -⟩ : 1 ≤ s.cfg.sampleRate.value.toNat ∧ s.cfg.sampleRate.value.toNat ≤ 1000000 := by
    simpa [rateLegal] using hfs
  rw [← List.length_pos_iff, cycleFrames_length, latchCfg_of_set hset, lt_ceilDiv_iff (Nat.pos_of_ne_zero hm), Nat.zero_mul]
  exact Nat.mul_pos Nat.two_pos (sampleCount_pos Config.params hfs)

/-- The whole of a START that passes its checks: it queues the frames and hands over the first (R283, R285, R286). -/
theorem execStart_eq_sinkWrite {first : Bytes} {more : List Bytes} (hw : s.ctl ≠ .waitWrite)
    (hv : validate s.cfg g = none)
    (hF : cycleFrames Config.params (latchCfg s.cfg s.lcfg) g = first :: more) :
    execStart g s
      = .next ((computeFrames Config.params (s.latch g).clearStatus).awaitWrite.sinkWrite first) := by
  rw [execStart_of_valid hw hv]
  exact beginWrites_of_cons rfl (framesTotal_of_validate hv _) ((computeFrames_fq_of_valid hv).trans hF)

end

/-- Settles O54: the queue is FRAMES of the values of `cfg`, all of them set, and its first frame is handed over. -/
theorem startComputesAllFrames : Obligations.StartComputesAllFrames := by
  intro s g hw hv
  obtain ⟨hset, -⟩ := (validate_eq_none_iff _ _).1 hv
  obtain ⟨first, more, hF⟩ := List.exists_cons_of_ne_nil (cycleFrames_ne_nil_of_valid hv)
  have hfq := (computeFrames_fq_of_valid hv).trans hF
  have htotal := (framesTotal_of_validate hv Config.params).trans (congrArg List.length hfq)
  have hout : ((computeFrames Config.params (s.latch g).clearStatus).awaitWrite.sinkWrite first).outstanding
      = some first := by
    rw [State.outstanding_of_waitWrite rfl, State.sinkWrite_fq, State.awaitWrite_fq, hfq]
    rfl
  exact ⟨_, first, more, execStart_eq_sinkWrite hw hv hF, latchCfg_of_set hset s.lcfg, rfl, hF, hfq, htotal, rfl, rfl,
    rfl, rfl, rfl, rfl, hout, rfl, rfl, rfl, rfl⟩

/-- Settles O60: by O53 a failing START writes the same error, and by O54 a passing one the frames of `cfg` and the grid. -/
theorem nothingCarriesBetweenCycles : Obligations.NothingCarriesBetweenCycles := by
  intro s1 s2 t1 t2 g hcfg hw1 hw2 h1 h2
  rcases hv : validate s1.cfg g with _ | e
  · obtain ⟨u1, a1, l1, e1, lc1, -, F1, fq1, n1, w1, i1, c1, code1, det1, sink1, -⟩ := startComputesAllFrames s1 g hw1 hv
    obtain ⟨u2, a2, l2, e2, lc2, -, F2, fq2, n2, w2, i2, c2, code2, det2, sink2, -⟩ :=
      startComputesAllFrames s2 g hw2 (hcfg ▸ hv)
    obtain rfl : u1 = t1 := Host.Outcome.next.inj (e1.symm.trans h1)
    obtain rfl : u2 = t2 := Host.Outcome.next.inj (e2.symm.trans h2)
    have hF : a1 :: l1 = a2 :: l2 := by rw [← F1, ← F2, lc1, lc2, hcfg]
    obtain ⟨rfl, rfl⟩ := List.cons.inj hF
    exact ⟨fq1.trans fq2.symm, c1.trans c2.symm, code1.trans code2.symm, det1.trans det2.symm,
      BitVec.eq_of_toNat_eq (n1.trans n2.symm), w1.trans w2.symm, i1.trans i2.symm, [a1], sink1, sink2⟩
  · obtain rfl := Host.Outcome.next.inj ((startReportsTheError s1 g e hw1 hv).symm.trans h1)
    obtain rfl := Host.Outcome.next.inj ((startReportsTheError s2 g e hw2 (hcfg ▸ hv)).symm.trans h2)
    exact ⟨rfl, rfl, rfl, rfl, rfl, rfl, rfl, [], by simp, by simp⟩

/-! ## A cycle under a host script

`Writing` is the state of a cycle between two answers. START reaches it at frame 0, a WRITE_OK moves it to the next frame, and
the other transactions of a script keep it (44_cycle_control.md R296). -/

/-- The block waits for the answer to frame `j` of the cycle's frames `F`; it began the cycle with `sent` handed over. -/
structure Writing (F sent : List Bytes) (j : Nat) (s : State) : Prop where
  ctl : s.ctl = .waitWrite
  errCode : s.errCode = .none
  errDetail : s.errDetail = .none
  fq : s.fq = F
  total : s.framesTotal.toNat = F.length
  written : s.framesWritten.toNat = j
  idx : s.frameIdx.toNat = j
  lt : j < F.length
  pv : s.pv = false
  sink : s.sink = sent ++ F.take (j + 1)

section
variable {F sent : List Bytes} {j : Nat} {s : State}

namespace Writing

theorem withInbox (h : Writing F sent j s) (l : List Item) : Writing F sent j (s.withInbox l) := { h with }

theorem withCfg (h : Writing F sent j s) (c : ConfigRegs) : Writing F sent j (s.withCfg c) := { h with }

theorem reply (h : Writing F sent j s) (r : Reply) : Writing F sent j (s.reply r) := { h with }

/-- FRAME_IDX + 1 is the number of the next frame, without wrapping around. -/
theorem toNat_frameIdx_add_one (h : Writing F sent j s) : (s.frameIdx + 1).toNat = j + 1 := by
  rw [Machine.toNat_frameIdx_add_one (by rw [h.idx, h.total]; exact h.lt), h.idx]

theorem toNat_framesWritten_add_one (h : Writing F sent j s) : (s.framesWritten + 1).toNat = j + 1 := by
  rw [BitVec.eq_of_toNat_eq (h.written.trans h.idx.symm), h.toNat_frameIdx_add_one]

/-- A CFG_SET or a read during a cycle leaves the cycle as it is (R280). -/
theorem exec_quiet (h : Writing F sent j s) {i : Instr} (hq : Claims.quiet i = true) :
    ∃ t, exec i s = .next t ∧ Writing F sent j t ∧ t.inbox = s.inbox := by
  cases i with
  | cfgSet k v =>
    obtain ⟨hk, hv⟩ : k.toNat < 6 ∧ cfgShapeOk k v = true := by simpa [Claims.quiet] using hq
    obtain ⟨c, hc⟩ := writeCfg_isSome s.cfg hk hv
    exact ⟨_, execCfgSet_of_writeCfg hk hv hc, h.withCfg c, rfl⟩
  | cfgRead k => exact ⟨_, execCfgRead_of_lt (of_decide_eq_true hq), h.reply _, rfl⟩
  | statusRead => exact ⟨_, rfl, h.reply _, rfl⟩
  | _ => cases hq

/-- WRITE_OK before the last frame hands over the next one (R287). -/
theorem exec_writeOk (h : Writing F sent j s) (hlt : j + 1 < F.length) :
    ∃ t, exec .writeOk s = .next t ∧ Writing F sent (j + 1) t ∧ t.inbox = s.inbox := by
  have hmore : s.frameIdx + 1 ≠ s.framesTotal := fun e => by
    have := congrArg BitVec.toNat e
    rw [h.toNat_frameIdx_add_one, h.total] at this
    omega
  have hb : s.fq[(s.frameIdx + 1).toNat]? = some F[j + 1] := by
    rw [h.fq, h.toNat_frameIdx_add_one, List.getElem?_eq_getElem hlt]
  refine ⟨_, execWriteOk_of_more h.ctl hmore hb, ?_, rfl⟩
  exact
    { h with
      written := h.toNat_framesWritten_add_one
      idx := h.toNat_frameIdx_add_one
      lt := hlt
      sink := by
        rw [State.sinkWrite_sink, State.countWritten_sink, h.sink, List.append_assoc, List.take_append_getElem hlt] }

end Writing

/-- START reaches the wait for frame 0. -/
theorem exec_start_writing {g : PixelGrid} (hp : s.pv = false) (hw : s.ctl ≠ .waitWrite)
    (hv : validate s.cfg g = none) :
    ∃ t, exec (.start g) s = .next t ∧ t.inbox = s.inbox ∧
      Writing (cycleFrames Config.params (latchCfg s.cfg s.lcfg) g) s.sink 0 t := by
  obtain ⟨hset, -⟩ := (validate_eq_none_iff _ _).1 hv
  obtain ⟨t, first, more, he, hl, -, hF, hfq, hn, hwr, hi, hc, hcode, hdet, hsink, -, -, hpv, -, hin⟩ :=
    startComputesAllFrames s g hw hv
  rw [hl, ← latchCfg_of_set hset s.lcfg] at hF
  refine ⟨t, he, hin, ?_⟩
  rw [hF]
  exact ⟨hc, hcode, hdet, hfq, hn, by rw [hwr]; rfl, by rw [hi]; rfl, by simp, hpv.trans hp, hsink⟩

/-! The host's script. -/

/-- An instruction the host can send: it has an item, and its operands are those of the item's code (30_encoding.md R108). -/
def Sendable (i : Instr) : Prop := i.wellFormed = true ∧ ∃ it, encode 0#16 i = some it

theorem sendable_of_quiet {i : Instr} (hq : Claims.quiet i = true) : Sendable i := by
  cases i with
  | cfgSet k v =>
    obtain ⟨-, hv⟩ : k.toNat < 6 ∧ cfgShapeOk k v = true := by simpa [Claims.quiet] using hq
    exact ⟨hv, _, rfl⟩
  | cfgRead | statusRead => exact ⟨rfl, _, rfl⟩
  | _ => cases hq

/-- The step that takes the first transaction of a script runs it. -/
theorem run_hostItems_cons {i : Instr} {l : List Instr} {rest : List Item} {t : State} (hi : Sendable i)
    (hin : s.inbox = Claims.hostItems (i :: l) ++ rest)
    (he : exec i (s.withInbox (Claims.hostItems l ++ rest)) = .next t) (k : Nat) :
    Sys2Proof.core.run (k + 1) s = Sys2Proof.core.run k t := by
  obtain ⟨hwf, it, hit⟩ := hi
  have hcons : s.inbox = it :: (Claims.hostItems l ++ rest) := by
    rw [hin, Claims.hostItems, List.filterMap_cons_some hit]
    rfl
  exact run_succ_of_step ((step_of_decode hcons (decodeOfEncodeIsTheInstruction _ _ _ hwf hit)).trans he) k

/-- A script of accepted writes, with CFG_SETs and reads anywhere among them, moves the cycle on by a frame for each WRITE_OK,
as long as a frame is left to hand over. -/
theorem Writing.run_script {tail : List Instr} {rest : List Item} {l : List Instr} (h : Writing F sent j s)
    (hl : Claims.AcceptingScript l) (hlt : j + l.count .writeOk < F.length)
    (hin : s.inbox = Claims.hostItems (l ++ tail) ++ rest) :
    ∃ t, (∀ k, Sys2Proof.core.run (l.length + k) s = Sys2Proof.core.run k t) ∧
      Writing F sent (j + l.count .writeOk) t ∧ t.inbox = Claims.hostItems tail ++ rest := by
  induction l generalizing s j with
  | nil => exact ⟨s, fun k => by simp, h, hin⟩
  | cons i l ih =>
    have hl' : Claims.AcceptingScript l := fun x hx => hl x (List.mem_cons_of_mem i hx)
    have h' := h.withInbox (Claims.hostItems (l ++ tail) ++ rest)
    have hlen (k : Nat) : (i :: l).length + k = l.length + k + 1 := by rw [List.length_cons]; omega
    rcases hl i List.mem_cons_self with rfl | hq
    · rw [List.count_cons_self, ← Nat.add_assoc, Nat.add_right_comm] at hlt ⊢
      obtain ⟨t, he, ht, htin⟩ := h'.exec_writeOk (by omega)
      obtain ⟨u, hrun, hu, huin⟩ := ih ht hl' hlt htin
      exact ⟨u, fun k => by rw [hlen, run_hostItems_cons ⟨rfl, _, rfl⟩ hin he, hrun], hu, huin⟩
    · have hne : i ≠ .writeOk := fun e => by simp [e, Claims.quiet] at hq
      rw [List.count_cons_of_ne hne] at hlt ⊢
      obtain ⟨t, he, ht, htin⟩ := h'.exec_quiet hq
      obtain ⟨u, hrun, hu, huin⟩ := ih ht hl' hlt htin
      exact ⟨u, fun k => by rw [hlen, run_hostItems_cons (sendable_of_quiet hq) hin he, hrun], hu, huin⟩

/-- START, a script of accepted writes, and one answer more, `last`: all but `last` bring the cycle to the wait for the frame
whose number is that of the script's WRITE_OKs, and `last` ends the run. -/
theorem run_cycle {g : PixelGrid} {l : List Instr} {last : Instr} {rest : List Item} (hp : s.pv = false)
    (hw : s.ctl ≠ .waitWrite) (hv : validate s.cfg g = none) (hl : Claims.AcceptingScript l)
    (hlt : l.count .writeOk < (cycleFrames Config.params (latchCfg s.cfg s.lcfg) g).length)
    (hin : s.inbox = Claims.hostItems (.start g :: (l ++ [last])) ++ rest) (hlast : Sendable last) :
    ∃ u, u.inbox = rest ∧
      Writing (cycleFrames Config.params (latchCfg s.cfg s.lcfg) g) s.sink (l.count .writeOk) u ∧
      ∀ t, exec last u = .next t → Sys2Proof.core.run (l.length + 2) s = .next t := by
  obtain ⟨s0, he, hin0, h0⟩ := exec_start_writing (s := s.withInbox (Claims.hostItems (l ++ [last]) ++ rest)) hp hw hv
  obtain ⟨u, hrun, hu, huin⟩ := h0.run_script hl (by rwa [Nat.zero_add]) hin0
  rw [Nat.zero_add] at hu
  refine ⟨u.withInbox rest, rfl, hu.withInbox rest, fun t ht => ?_⟩
  calc Sys2Proof.core.run (l.length + 2) s
      = Sys2Proof.core.run (l.length + 1) s0 := run_hostItems_cons ⟨rfl, _, rfl⟩ hin he _
    _ = Sys2Proof.core.run 1 u := hrun 1
    _ = .next t := run_hostItems_cons hlast huin ht 0

end

/-- Settles O58: the script brings the cycle to its last frame, and the last WRITE_OK completes it. -/
theorem cycleLawEveryWriteAccepted : Obligations.CycleLawEveryWriteAccepted := by
  intro s g l rest hp hw hv hl hlen hin
  obtain ⟨u, huin, hu, hrun⟩ := run_cycle hp hw hv hl (by omega) hin ⟨rfl, _, rfl⟩
  have hwritten : (u.framesWritten + 1).toNat = u.framesTotal.toNat := by
    rw [hu.toNat_framesWritten_add_one, hu.total, hlen]
  have hidx : (u.frameIdx + 1).toNat = u.framesTotal.toNat := by rw [hu.toNat_frameIdx_add_one, hu.total, hlen]
  refine ⟨_, hrun _ (execWriteOk_of_last hu.ctl (BitVec.eq_of_toNat_eq hidx)), ?_, rfl, hu.errCode, hu.errDetail,
    hu.total.trans hlen.symm, BitVec.eq_of_toNat_eq hwritten, rfl, ⟨nofun, hu.pv⟩, huin⟩
  rw [State.complete_sink, State.countWritten_sink, hu.sink, hlen, List.take_length]

/-- Settles O59: the script brings the cycle to frame j, and the WRITE_ERR ends it with TransportError. -/
theorem cycleLawFirstFailedWrite : Obligations.CycleLawFirstFailedWrite := by
  intro s g l rest hp hw hv hl hlt hin
  obtain ⟨u, huin, hu, hrun⟩ := run_cycle hp hw hv hl hlt hin ⟨rfl, _, rfl⟩
  have hidx : u.frameIdx = BitVec.ofNat 32 (l.count .writeOk) := by rw [← hu.idx, BitVec.ofNat_toNat, BitVec.setWidth_eq]
  exact ⟨_, hrun _ (execWriteErr_of_waitWrite hu.ctl), hu.sink, rfl, rfl, congrArg ErrDetail.frame hidx, hu.total,
    hu.written, rfl, ⟨nofun, hu.pv⟩, huin⟩

end Sys2Proof.Machine

namespace Sys2Proof.Machine

/-! ## Protocol violations (60_exceptions.md R340) -/

/-- The codes that 30_encoding.md R108 gives no transaction are reserved whatever the operand (44_cycle_control.md R293). -/
theorem decodeHost_of_reserved {code : Byte} (h : (0x07 ≤ code.toNat ∧ code.toNat ≤ 0x7F) ∨ 0x81 ≤ code.toNat)
    (arg : HostArg) : decodeHost code arg = .reject .reservedHostCode := by
  unfold decodeHost
  split
  case h_9 => exact if_neg (by omega)
  all_goals omega

/-- A START while a write is outstanding (44_cycle_control.md R284). -/
theorem execStart_of_waitWrite {s : State} (hw : s.ctl = .waitWrite) (g : PixelGrid) : execStart g s = .next s.markPv :=
  if_pos hw

/-- Settles O13: each cause has its equation, and each equation answers `markPv`. -/
theorem protocolViolationsSetPvOnly : Obligations.ProtocolViolationsSetPvOnly :=
  ⟨fun _ g hw => execStart_of_waitWrite hw g,
    fun _ hw => ⟨execWriteOk_of_not_waitWrite hw, execWriteErr_of_not_waitWrite hw⟩,
    fun _ _ v hk => ⟨execCfgSet_of_six_le hk v, execCfgRead_of_six_le hk⟩,
    fun _ _ arg _ hcode hin => step_of_reject hin (decodeHost_of_reserved hcode arg)⟩

/-! ## The checks of START (60_exceptions.md R332 to R335) -/

theorem isCallChar_eq_true_iff {d : Byte} : isCallChar d = true ↔
    (0x41 ≤ d.toNat ∧ d.toNat ≤ 0x5A) ∨ (0x30 ≤ d.toNat ∧ d.toNat ≤ 0x39) := by
  simp [isCallChar]

/-- CALLCHECK strips with Mathlib's `rdropWhile`, whose laws apply. -/
theorem stripSpaces_eq_rdropWhile (c : Bytes) : stripSpaces c = c.rdropWhile (· == 0x20#8) := rfl

theorem getLast?_stripSpaces_ne_space (c : Bytes) : (stripSpaces c).getLast? ≠ some 0x20#8 := by
  rw [stripSpaces_eq_rdropWhile]
  intro hlast
  have hne : c.rdropWhile (· == 0x20#8) ≠ [] := fun he => by simp [he] at hlast
  exact List.rdropWhile_last_not _ _ hne (beq_iff_eq.2 ((List.getLast_eq_iff_getLast?_eq_some hne).2 hlast))

/-- What `stripSpaces` takes away is a run of spaces. -/
theorem exists_eq_stripSpaces_append (c : Bytes) : ∃ k, c = stripSpaces c ++ List.replicate k 0x20#8 := by
  refine ⟨(c.rtakeWhile (· == 0x20#8)).length, ?_⟩
  have hspaces (d : Byte) (hd : d ∈ c.rtakeWhile (· == 0x20#8)) : d = 0x20#8 :=
    eq_of_beq (List.mem_rtakeWhile_imp (p := (· == 0x20#8)) hd)
  rw [← List.eq_replicate_of_mem hspaces, stripSpaces_eq_rdropWhile, List.rdropWhile_append_rtakeWhile]

theorem stripSpaces_append_replicate {p : Bytes} (h : p.getLast? ≠ some 0x20#8) (k : Nat) :
    stripSpaces (p ++ List.replicate k 0x20#8) = p := by
  rw [stripSpaces_eq_rdropWhile]
  induction k with
  | zero =>
    rw [List.replicate_zero, List.append_nil, List.rdropWhile_eq_self_iff]
    exact fun hne hspace => h ((List.getLast_eq_iff_getLast?_eq_some hne).1 (eq_of_beq hspace))
  | succ k ih => rw [List.replicate_succ', ← List.append_assoc, List.rdropWhile_concat_pos _ _ _ rfl, ih]

theorem not_all_isCallChar_iff {p : Bytes} : (!p.all isCallChar) = true ↔
    ∃ d ∈ p, ¬((0x41 ≤ d.toNat ∧ d.toNat ≤ 0x5A) ∨ (0x30 ≤ d.toNat ∧ d.toNat ≤ 0x39)) := by
  simp only [List.not_all_eq_any_not, List.any_eq_true, Bool.not_eq_true', ← Bool.not_eq_true, isCallChar_eq_true_iff]

/-- Settles O49: with the trailing spaces stripped, CALLCHECK looks at the part before them. -/
theorem callsignCheck : Obligations.CallsignCheck := by
  refine ⟨fun c => ?_, fun p k ssid hp => ?_⟩
  · obtain ⟨k, hk⟩ := exists_eq_stripSpaces_append c
    exact ⟨stripSpaces c, k, hk, getLast?_stripSpaces_ne_space c⟩
  · simp only [callCheck, stripSpaces_append_replicate hp, List.length_append, List.length_replicate,
      not_all_isCallChar_iff]

/-- VALIDATE looks for an UNSET register in the order of the register numbers (R333). -/
theorem firstUnset_eq_find? (c : ConfigRegs) : firstUnset c = (List.range 6).find? (!Claims.setBit c ·) := by
  have hcons (k : Nat) (l : List Nat) : (k :: l).find? (!Claims.setBit c ·) =
      if !Claims.setBit c k then some k else l.find? (!Claims.setBit c ·) := by
    rw [List.find?_cons]
    cases Claims.setBit c k <;> rfl
  simp only [List.range_eq_range', List.range', hcons]
  rfl

theorem firstUnset_of_unset {c : ConfigRegs} {k : Nat} (hk : k < 6) (hunset : Claims.setBit c k = false)
    (hset : ∀ j < k, Claims.setBit c j = true) : firstUnset c = some k := by
  rw [firstUnset_eq_find?, List.find?_range_eq_some]
  exact ⟨by simp [hunset], by simpa using hk, by simpa using hset⟩

theorem firstUnset_of_set {c : ConfigRegs} (hset : ∀ k < 6, Claims.setBit c k = true) : firstUnset c = none := by
  rw [firstUnset_eq_find?, List.find?_range_eq_none]
  simpa using hset

theorem rateLegal_eq_false_iff {fs : Nat} : rateLegal fs = false ↔ fs = 0 ∨ 1000000 < fs := by
  simp only [rateLegal, Bool.and_eq_false_iff, decide_eq_false_iff_not]
  omega

/-- The grids that fail the dimension check, with the numbers of R334. -/
theorem gridLegal_eq_false_iff {g : PixelGrid} :
    gridLegal g = false ↔ g.w ≠ 320 ∨ g.h ≠ 256 ∨ g.px.length ≠ g.w * g.h := by
  simp only [gridLegal, Bool.and_eq_false_iff, beq_eq_false_iff_ne, or_assoc, Config.W, Config.H]

/-- Settles O50: the lowest UNSET register ends the checks; with none, each check of the chain is the rule's, and only the
two callsigns are left to tell apart. -/
theorem validateReportsTheFirstFailure : Obligations.ValidateReportsTheFirstFailure := by
  refine fun c g => ⟨fun k hk hunset hset => ?_, fun hset => ?_⟩
  · rw [validate, firstUnset_of_unset hk hunset hset]
  · simp only [validate, firstUnset_of_set hset, validateGridAndCalls, Bool.not_eq_true', rateLegal_eq_false_iff,
      gridLegal_eq_false_iff]
    rcases callCheck c.dstCall.value c.dstSsid.value with _ | r
    · rcases callCheck c.srcCall.value c.srcSsid.value with _ | r' <;> rfl
    · rfl

end Sys2Proof.Machine

namespace Sys2Proof.Machine

/-! ## Power-on (70_reset_and_hazards.md R380, R381) -/

/-- In every state but WAIT_WRITE no write is outstanding (44_cycle_control.md R286). -/
theorem State.outstanding_of_not_waitWrite {s : State} (hw : s.ctl ≠ .waitWrite) : s.outstanding = none := if_neg hw

/-- Settles O1: every register is UNSET, the block is in IDLE, so no write is outstanding, and RESET keeps PV. -/
theorem powerOnState : Obligations.PowerOnState := by
  have hunset (k : Nat) (_ : k < 6) : Claims.setBit State.reset.cfg k = false := setBit_unset k
  have hidle : State.reset.ctl = .idle := rfl
  have hout : State.reset.outstanding = none := State.outstanding_of_not_waitWrite (by simp [hidle])
  exact ⟨hunset, hidle, rfl, rfl, rfl, rfl, rfl, rfl, rfl, hout, fun s => ⟨s.resetKeeping, rfl, s.resetKeeping_pv⟩⟩

end Sys2Proof.Machine
